-- ==== Sys2Proof/Word.lean ====
section
/-! DEFINITION. The byte of the serial line and the index types of the numbered items (R1, section 6.3). -/

namespace Sys2Proof

/-- A byte as the serial line carries it (R169): eight bits. -/
abbrev Byte := BitVec 8

/-- A busbar section, 0..3. -/
abbrev Section := Fin 4

/-- A compensation group, identified by the number of its lowest section, 0..3. -/
abbrev Group := Fin 4

/-- A coil, its drive or its injector, 0..3. -/
abbrev Coil := Fin 4

/-- A bus coupler, 0..2; coupler `k` joins section `k` and section `k + 1`. -/
abbrev Coupler := Fin 3

/-- An analog channel, 0..11 (section 1.1): U0 0..3, IINJ 4..7, UREF 8..11. -/
abbrev Channel := Fin 12

/-- A contact input, 0..23. -/
abbrev ContactNo := Fin 24

/-- A feeder entry, 0..47. -/
abbrev FeederNo := Fin 48

end Sys2Proof
end

