-- ==== Sys2Proof/Config.lean ====
section
/-! DEFINITION. What the spec leaves open as a value, and the constants the part is built with. -/

namespace Sys2Proof.Config

/-- FREE VALUE (log entry 1). What a report field of `size` bytes carries when the exact value `v` does not fit the field
(a notice value outside the signed 32-bit range, an age beyond 2³²−1 seconds). R181 gives the field's size and says nothing of
a value outside it. No body: nothing can be proved of the number, and every statement holds for every choice of it. -/
opaque overflowField (size : Nat) (v : Int) : Nat

/-- Periods of the 24.576 MHz timebase in one millisecond (section 5 of the scope file, R2). -/
def countsPerMs : Nat := 24576

/-- The elapsed time after which an undetermined input takes its raw level, in ms (R161). -/
def firstDebounceMs : Nat := 150

/-- The inter-byte gap of R170: the partial frame is discarded when MORE than this many ms pass after a byte. -/
def byteGapMs : Nat := 20

/-- The notice queue's capacity (R187). -/
def queueCapacity : Nat := 32

/-- The history ring's capacity (R190). -/
def ringCapacity : Nat := 64

/-- The fault log's capacity (R155). -/
def logCapacity : Nat := 16

/-- The transition list's capacity (R92). -/
def listCapacity : Nat := 8

/-- The quiet history's capacity (R54). -/
def quietCapacity : Nat := 32

/-- The number of request slots of the input buffer (R172). -/
def slotCount : Nat := 2

end Sys2Proof.Config
end

