-- ==== Sys2Proof/Syntax.lean ====
section
/-! DEFINITION. The commands of the OT-62: one constructor per row of spec/opcode_table.json.

The table gives its rows no operands; each constructor carries what the row's rule reads. A REQUEST row carries the fields of
its frame in the catalogue's order (R174) after the frame's tag, as the numbers the bytes spell, so a field may hold a number
that its rule refuses. A row for an event at the plant side or at a timer carries the item it concerns. -/

namespace Sys2Proof

inductive Instr where
  /-- POWER_ON (R195): power comes on with the two rate straps at these levels (true is high). -/
  | powerOn (strap1 strap0 : Bool)
  /-- RESET_PIN (R195): the reset pin is asserted with the straps at these levels. -/
  | resetPin (strap1 strap0 : Bool)
  /-- ENTER_SETUP (R195): the part leaves STARTING for SETUP. -/
  | enterSetup
  /-- IDENT (R175). -/
  | ident (tag : Nat)
  /-- TIME_SET (R175): the 48-bit part time. -/
  | timeSet (tag time : Nat)
  /-- SET (R176) of a setting with no row of its own. -/
  | set (tag id scope : Nat) (value : Int)
  /-- SET of setting 0x0002 (R16). -/
  | setNominalFrequency (tag scope : Nat) (value : Int)
  /-- SET of setting 0x0010 (R37). -/
  | setInjectorLevel (tag scope : Nat) (value : Int)
  /-- SET of setting 0x0014 (R47). -/
  | setPeriodicInterval (tag scope : Nat) (value : Int)
  /-- SET of setting 0x0023 (R77). -/
  | setMaximumAge (tag scope : Nat) (value : Int)
  /-- SET of setting 0x0050 (R157). -/
  | setStartThreshold (tag scope : Nat) (value : Int)
  /-- SET of setting 0x0041 (`tap`) or 0x0040 (not `tap`), a coil's stop tolerance (R128). -/
  | setStopTolerance (tag : Nat) (tap : Bool) (scope : Nat) (value : Int)
  /-- SET of setting 0x0061 (R162). -/
  | setInputPolarity (tag scope : Nat) (value : Int)
  /-- SET of setting 0x0062 (R163). -/
  | setInputAssignment (tag scope : Nat) (value : Int)
  /-- GET (R176). -/
  | get (tag id scope : Nat)
  /-- COUPLER_SET (R20): state 0 OPEN, 1 CLOSED, 2 UNKNOWN. -/
  | couplerSet (tag coupler state : Nat)
  /-- COIL_CONFIG (R22). -/
  | coilConfig (tag coil present type sect injector : Nat)
  /-- COIL_MODE (R23): mode 1 PARKED, 2 MANUAL, 3 AUTO. -/
  | coilMode (tag coil mode : Nat)
  /-- COIL_MOVE (R122). -/
  | coilMove (tag coil position : Nat)
  /-- COIL_STOP (R125). -/
  | coilStop (tag coil : Nat)
  /-- DRIVE_CLEAR (R139). -/
  | driveClear (tag coil : Nat)
  /-- FEEDER_DEFINE (R87): meaning 0 keep, 1 value, 2 unknown. -/
  | feederDefine (tag feeder define sect meaning contribution : Nat)
  /-- FEEDER_SET (R89): state 0 OUT, 1 IN, 2 UNKNOWN. -/
  | feederSet (tag feeder state : Nat)
  /-- FEEDER_READ (R99). -/
  | feederRead (tag feeder : Nat)
  /-- SETPOINT (R106). -/
  | setpoint (tag sect : Nat) (value : Int)
  /-- MEASURE (R44). -/
  | measure (tag sect : Nat)
  /-- READ_ESTIMATE (R82). -/
  | readEstimate (tag sect : Nat)
  /-- READ_COIL (R141). -/
  | readCoil (tag coil : Nat)
  /-- READ_INPUTS (R167). -/
  | readInputs (tag : Nat)
  /-- READ_HISTORY (R191). -/
  | readHistory (tag first count : Nat)
  /-- READ_FAULTS (R156). -/
  | readFaults (tag : Nat)
  /-- EVENTS_READ (R185). -/
  | eventsRead (tag : Nat)
  /-- EVENTS_CLEAR (R185): the kind set. -/
  | eventsClear (tag kinds : Nat)
  /-- NOTICE_MASK (R186): the mask set. -/
  | noticeMask (tag mask : Nat)
  /-- NOTICE_CONFIG (R188): trigger level and hold time in ms. -/
  | noticeConfig (tag trigger hold : Nat)
  /-- TABLE_OPEN (R177). -/
  | tableOpen (tag coil count : Nat)
  /-- TABLE_POINTS (R178): the points as (position, current). -/
  | tablePoints (tag : Nat) (points : List (Nat × Nat))
  /-- TABLE_COMMIT (R179). -/
  | tableCommit (tag : Nat)
  /-- RUN (R196). -/
  | run (tag : Nat)
  /-- STOP (R197). -/
  | stop (tag : Nat)
  /-- RESTART (R198). -/
  | restart (tag : Nat)
  /-- UNKNOWN_KIND (R173): a request whose kind is outside the catalogue. -/
  | unknownKind (tag kind : Nat)
  /-- FRAME_DISCARD (R171): the frame being received has a bad length or a bad check. -/
  | frameDiscard
  /-- INPUT_BUFFER_FULL (R172): a frame completes while both slots hold requests. -/
  | inputBufferFull
  /-- INTER_BYTE_GAP (R170). -/
  | interByteGap
  /-- TRANSMIT_END (R180). -/
  | transmitEnd
  /-- NOTICE_FRAME (R189). -/
  | noticeFrame
  /-- NOTICE_HOLD_EXPIRY (R188). -/
  | noticeHoldExpiry
  /-- CYCLE_BOUNDARY (R3): the twelve channels' 64 sample codes of the closing cycle. `supervisorFirst` says which block takes
  the boundary first, the earth-fault supervisor or the injection sequencer: R41 leaves it open (log entry 8). -/
  | cycleBoundary (samples : List (List Int)) (supervisorFirst : Bool)
  /-- ZERO_CROSSING (R12): a positive-going zero crossing, `counts` timebase periods after the crossing before it. -/
  | zeroCrossing (counts : Nat)
  /-- PERIOD_TIMEOUT (R12). -/
  | periodTimeout
  /-- CYCLE_START (R40) of a group's machine. -/
  | cycleStart (grp : Group)
  /-- SWITCHING_DELAY_EXPIRY (R45). -/
  | switchingDelayExpiry (grp : Group)
  /-- PERIODIC_TIMER_EXPIRY (R47). -/
  | periodicTimerExpiry (grp : Group)
  /-- AGE_TIMER_EXPIRY (R77). -/
  | ageTimerExpiry (grp : Group)
  /-- MOVE_START (R127). -/
  | moveStart (coil : Coil)
  /-- POSITION_REPORT (R120): the coil's position input now shows this code and validity. -/
  | positionReport (coil : Coil) (code : Nat) (valid : Bool)
  /-- TRAVEL_TIMER_EXPIRY (R129). -/
  | travelTimerExpiry (coil : Coil)
  /-- STEP_TIMER_EXPIRY (R130). -/
  | stepTimerExpiry (coil : Coil)
  /-- DELAY_TIMER_EXPIRY (R130). -/
  | delayTimerExpiry (coil : Coil)
  /-- COAST_TIMER_EXPIRY (R132). -/
  | coastTimerExpiry (coil : Coil)
  /-- INTERVAL_TIMER_EXPIRY (R133). -/
  | intervalTimerExpiry (coil : Coil)
  /-- START_DWELL_EXPIRY (R145). -/
  | startDwellExpiry (sect : Section)
  /-- END_DWELL_EXPIRY (R149). -/
  | endDwellExpiry (sect : Section)
  /-- POST_FAULT_HOLD_EXPIRY (R151). -/
  | postFaultHoldExpiry (grp : Group)
  /-- PERSISTENCE_TIMER_EXPIRY (R153) of the open episode that this section belongs to. -/
  | persistenceTimerExpiry (sect : Section)
  /-- RAW_LEVEL_CHANGE (R161): the input's raw level is now HIGH (true) or LOW. -/
  | rawLevelChange (input : ContactNo) (high : Bool)
  /-- DEBOUNCE_TIMER_EXPIRY (R162). -/
  | debounceTimerExpiry (input : ContactNo)
  /-- FIRST_DEBOUNCE_TIMEOUT (R161). -/
  | firstDebounceTimeout
  /-- DISCREPANCY_TIMER_EXPIRY (R165). -/
  | discrepancyTimerExpiry (coupler : Coupler)
  /-- RECEIVED_BYTE (R170). -/
  | receivedByte (byte : Byte)
  /-- MISSING_STOP_BIT (R170). -/
  | missingStopBit
  deriving DecidableEq, Repr

end Sys2Proof
end

