-- ==== Sys2Proof/Machine/State.lean ====
section
/-! DEFINITION. The state of the OT-62, block by block as the table of section 2 of the scope file lists them, and the state
right after power-on. Every field's docstring names the rule that gives it; INVENTORY.md lists them with their reset values.

A timer is an `Option Nat`: `none` is stopped (or expired), `some n` is running with `n` ms left. -/

namespace Sys2Proof.Machine

/-! ## The enumerations of the manual -/

/-- The run state (R195). -/
inductive RunState where
  | starting | setup | run
  deriving DecidableEq, Repr

/-- A coupler's state (R19). -/
inductive CouplerState where
  | opened | closed | unknown
  deriving DecidableEq, Repr

/-- A coil's type (R22). -/
inductive CoilType where
  | plunger | tapped
  deriving DecidableEq, Repr

/-- A coil's participation mode (section 2.2). -/
inductive CoilMode where
  | absent | parked | manual | auto
  deriving DecidableEq, Repr

/-- The six states of a cycle machine (section 3.2). -/
inductive CycleState where
  | idle | waiting | settleA | windowA | settleB | windowB
  deriving DecidableEq, Repr

/-- How a cycle ended (R190; the six aborts of section 3.5). -/
inductive CycleOutcome where
  | accepted | rejected | abortedFault | abortedOvervoltage | abortedTopology | abortedMove | abortedStop | abortedInjector
  deriving DecidableEq, Repr

/-- The five states of an estimate (R65). -/
inductive EstState where
  | empty | settling | valid | provisional | frozen
  deriving DecidableEq, Repr

/-- A feeder's state (R86). -/
inductive FeederState where
  | out | into | unknown
  deriving DecidableEq, Repr

/-- What a transition handed the estimator (R92). -/
inductive Adjustment where
  | nothing | preTuned (contribution : Nat) | learning
  deriving DecidableEq, Repr

/-- The outcome of a planning (R107). -/
inductive PlanOutcome where
  | notPlanned | noValue | noAuto | deadband | planned
  deriving DecidableEq, Repr

/-- The RANGE_LIMIT condition with its bound (R111). -/
inductive RangeLimit where
  | clear | low | high
  deriving DecidableEq, Repr

/-- What a planning handed a drive (R116). -/
inductive Handed where
  | target | withdrawal
  deriving DecidableEq, Repr

/-- A drive's state (chapter 7). -/
inductive DriveState where
  | idle | pending | runningUp | runningDown | stopping | fault
  deriving DecidableEq, Repr

/-- Why a drive is STOPPING (R132). -/
inductive StopReason where
  | reached | redirected | limit | interrupted | stopped
  deriving DecidableEq, Repr

/-- How a move ended (R132, R138). -/
inductive MoveOutcome where
  | done | offTarget | redirected | limit | interrupted | stopped | fault
  deriving DecidableEq, Repr

/-- Why a drive is in FAULT (R138). -/
inductive FaultReason where
  | feedback | timeout | direction
  deriving DecidableEq, Repr

/-- Where a target comes from (R121). -/
inductive Origin where
  | auto | manual
  deriving DecidableEq, Repr

/-- The phase of a running tapped coil (R130). -/
inductive StepPhase where
  | step | delay
  deriving DecidableEq, Repr

/-- The outcome of an episode (R155). -/
inductive EpisodeOutcome where
  | opened | persistent | cleared | restarted
  deriving DecidableEq, Repr

/-- What an input is assigned to (R163). -/
inductive Assignment where
  | nothing
  | couplerClosed (k : Coupler) | couplerOpen (k : Coupler)
  | feeder (n : FeederNo)
  | coilPark (c : Coil) | injectorFault (c : Coil) | limitUp (c : Coil) | limitDown (c : Coil)
  deriving DecidableEq, Repr

/-- The form of a coupler's indication (R160). -/
inductive IndicationForm where
  | nothing | singleClosed | singleOpen | double
  deriving DecidableEq, Repr

/-- The receiver's states (R170). -/
inductive RxState where
  | hunt | length | body | check
  deriving DecidableEq, Repr

/-- The sixteen event kinds (R183). -/
inductive EventKind where
  | estimate | cycleAborted | moveDone | driveFault | episodeStart | episodeEnd | episodePersistent | groupChange
  | inputChange | rangeLimit | freqHeld | injector | unstable | stale | contribUpdated | noticeOverrun
  deriving DecidableEq, Repr

/-! ## Acquisition unit and frequency tracker (chapter 1) -/

/-- A complex value; its components are integers in the units the rule that forms it states (R4 to R9). -/
structure Phasor where
  re : Int
  im : Int
  deriving DecidableEq, Repr

/-- The acquisition unit (R3, R7, R15): per channel the published cycle phasor and its SATURATED flag, and the sample
interval count latched for the mains cycle in progress. The channel gains are in `Settings`. -/
structure Acquisition where
  phasor : Vector Phasor 12
  saturated : Vector Bool 12
  latchedCount : Nat
  deriving DecidableEq, Repr

/-- The frequency tracker (section 1.4). `period` is the elapsed time of the period in progress, in timebase periods. -/
structure Tracker where
  source : Option Section
  history : List Nat
  period : Option Nat
  fUsed : Nat
  count : Nat
  held : Bool
  deriving DecidableEq, Repr

/-! ## Topology unit (chapter 2) -/

/-- A coil's configuration record (section 2.2). A coil is present exactly when its mode is not ABSENT. -/
structure CoilRecord where
  type : CoilType
  sect : Section
  injector : Bool
  mode : CoilMode
  deriving DecidableEq, Repr

/-- One row of the group table: held flag (R27), lead coil (R28, `none` is NO_INJECTOR) and members (R26). -/
structure GroupInfo where
  held : Bool
  lead : Option Coil
  members : List Coil
  deriving DecidableEq, Repr

/-- The topology unit: coupler states (R19), coil records (R22), the group of each section (R26) and the group rows.
A group number `g` is in use when `groupOf[g] = g`; the row of a number not in use is empty. -/
structure Topology where
  coupler : Vector CouplerState 3
  coil : Vector CoilRecord 4
  groupOf : Vector Section 4
  group : Vector GroupInfo 4
  deriving DecidableEq, Repr

/-! ## Injection sequencer (chapter 3) -/

/-- The quality flags of a cycle, bits 0..10 of R181. -/
structure Quality where
  freqHeld : Bool := false
  saturatedInput : Bool := false
  moved : Bool := false
  lowResponse : Bool := false
  dampClamped : Bool := false
  icSaturated : Bool := false
  gSaturated : Bool := false
  icNonpos : Bool := false
  outlier : Bool := false
  step : Bool := false
  provisionalConfirm : Bool := false
  deriving DecidableEq, Repr

/-- The capture of a cycle in flight (R40 to R42, R53): what was latched at its start, the progress of the running window and
the window phasors complete so far. -/
structure Capture where
  start : Nat
  group : Group
  sections : List Section
  lead : Coil
  leadSection : Section
  level : Nat
  settle : Nat
  window : Nat
  coilCurrent : Nat
  positions : Vector (Option Nat) 4
  members : List Coil
  count : Nat
  uWindow : List Phasor
  iWindow : List Phasor
  uSaturated : Bool
  iSaturated : Bool
  uA : Option Phasor
  iA : Option Phasor
  uB : Option Phasor
  iB : Option Phasor
  quality : Quality
  deriving DecidableEq, Repr

/-- A cycle machine (R39) with its trigger-pending flag, timers (R45, R47), measurement lock (R43) and capture. -/
structure CycleMachine where
  state : CycleState
  flag : Bool
  periodic : Option Nat
  switching : Option Nat
  lock : Bool
  capture : Option Capture
  deriving DecidableEq, Repr

/-- An injector (R36 to R38): availability, effective level, and the outputs enable, phase (true is 180°) and level. The
configured level is a setting. -/
structure Injector where
  available : Bool
  effective : Nat
  enable : Bool
  phase180 : Bool
  level : Nat
  deriving DecidableEq, Repr

/-- A pending overvoltage decision (R50): the coil whose injector was on and the sections that still carry the mark. -/
structure Decision where
  coil : Coil
  marks : List Section
  deriving DecidableEq, Repr

/-- The injection sequencer. -/
structure Sequencer where
  machine : Vector CycleMachine 4
  injector : Vector Injector 4
  decisions : List Decision
  deriving DecidableEq, Repr

/-! ## Network estimator (chapter 4) -/

/-- A pair (I_C, I_G) in 0.01 A. -/
structure Currents where
  iC : Nat
  iG : Nat
  deriving DecidableEq, Repr

/-- An estimate record (R64) with the natural displacement state of its group: whether jump detection is armed (R55), the
quiet history and the count of boundaries since an injector of the group was last switched off (R54). -/
structure Estimate where
  state : EstState
  returnState : Option EstState
  value : Option Currents
  candidate : Option Currents
  disagreement : Nat
  lastAccepted : Option Nat
  age : Option Nat
  lastCoilCurrent : Option Nat
  jumpReference : Option Phasor
  stale : Bool
  early : Bool
  changeMark : Bool
  lastCycle : Option (CycleOutcome × Quality)
  armed : Bool
  quiet : List Phasor
  sinceOff : Option Nat
  deriving DecidableEq, Repr

/-! ## Feeder register (chapter 5) -/

/-- A feeder entry (R86); `source = none` is REQUEST. -/
structure Feeder where
  defined : Bool
  sect : Section
  state : FeederState
  contribution : Option Nat
  updates : Nat
  source : Option ContactNo
  deriving DecidableEq, Repr

/-- A transition list entry (R92). `order` is the model's own field: the place of the transition among all transitions taken,
by which a merge interleaves two lists (R94). -/
structure ListEntry where
  feeder : FeederNo
  sect : Section
  old : FeederState
  new : FeederState
  time : Nat
  estBefore : EstState
  iCBefore : Option Nat
  adjustment : Adjustment
  order : Nat
  deriving DecidableEq, Repr

/-- A transition list (R92). -/
structure TransitionList where
  entries : List ListEntry
  overflow : Bool
  deriving DecidableEq, Repr

/-- The feeder register. `taken` is the model's own counter behind `ListEntry.order`. -/
structure FeederRegister where
  feeder : Vector Feeder 48
  list : Vector TransitionList 4
  taken : Nat
  deriving DecidableEq, Repr

/-! ## Tuning planner (chapter 6) -/

/-- A point of a calibration table (R101). -/
structure Point where
  pos : Nat
  cur : Nat
  deriving DecidableEq, Repr

/-- A movable coil's entry in an allocation (R107). -/
structure AllocEntry where
  coil : Coil
  share : Nat
  pos : Nat
  cur : Nat
  handed : Handed
  deriving DecidableEq, Repr

/-- A plan record (R107). `lastPlanned` is the allocation of the group's last PLANNED planning, which READ_COIL reports (R117)
also after a later planning with another outcome (log entry 20). -/
structure PlanRecord where
  outcome : PlanOutcome
  time : Option Nat
  raw : Option Nat
  fixed : Option Nat
  low : Option Nat
  high : Option Nat
  target : Option Nat
  range : RangeLimit
  alloc : List AllocEntry
  error : Option Int
  lastPlanned : List AllocEntry
  deriving DecidableEq, Repr

/-- The planner: active tables (R101, the empty list is the empty table), setpoints (R106) and plan records. -/
structure Planner where
  table : Vector (List Point) 4
  setpoint : Vector Int 4
  record : Vector PlanRecord 4
  deriving DecidableEq, Repr

/-! ## Coil drives (chapter 7) -/

/-- A target: a position and its origin (section 7.2). -/
structure Target where
  pos : Nat
  origin : Origin
  deriving DecidableEq, Repr

/-- The last move result (R132, R138). -/
structure MoveResult where
  result : MoveOutcome
  reason : Option FaultReason
  final : Option Nat
  target : Option Nat
  origin : Option Origin
  time : Nat
  deriving DecidableEq, Repr

/-- A coil drive (the table at the head of chapter 7), its two outputs and its position input (`inputCode`, `inputValid`).
`stepStart` is the tap at the start of the step in progress (R130). -/
structure Drive where
  state : DriveState
  inputCode : Nat
  inputValid : Bool
  position : Option Nat
  feedback : Bool
  pending : Option Target
  running : Option Target
  stopReason : Option StopReason
  phase : Option StepPhase
  stepStart : Option Nat
  best : Option Nat
  interval : Option Nat
  travel : Option Nat
  step : Option Nat
  delay : Option Nat
  coast : Option Nat
  last : Option MoveResult
  raiseOut : Bool
  lowerOut : Bool
  deriving DecidableEq, Repr

/-! ## Earth-fault supervisor (chapter 8) -/

/-- A running start dwell (R144): the part time and the highest magnitude it records, and its remaining time. -/
structure StartDwell where
  time : Nat
  peak : Nat
  remaining : Nat
  deriving DecidableEq, Repr

/-- The supervisor's state of one section (R144, R149). Pending crossing marks are held in `Sequencer.decisions`. -/
structure SectionWatch where
  start : Option StartDwell
  endDwell : Option Nat
  quiet : Bool
  deriving DecidableEq, Repr

/-- An episode record (R155). An episode is open while its outcome is OPEN or PERSISTENT (R153); `persistence` is its
persistence timer and `tMax` the T_max it was opened with. -/
structure EpisodeRecord where
  number : Nat
  sections : List Section
  start : Nat
  endTime : Option Nat
  peak : Nat
  peakSection : Section
  outcome : EpisodeOutcome
  restrike : Bool
  coils : Vector (Option Nat) 4
  iC : Option Nat
  detuning : Option Int
  persistence : Option Nat
  tMax : Nat
  deriving DecidableEq, Repr

/-- The supervisor: sections, post-fault holds (R151), the fault log oldest first (R155) and the next episode number (R145). -/
structure Supervisor where
  watch : Vector SectionWatch 4
  hold : Vector (Option Nat) 4
  log : List EpisodeRecord
  next : Nat
  deriving DecidableEq, Repr

/-! ## Contact input unit (chapter 9) -/

/-- An input record (R160); `level = none` is undetermined. -/
structure ContactInput where
  raw : Bool
  level : Option Bool
  timer : Option Nat
  debounce : Nat
  inverted : Bool
  assignment : Assignment
  deriving DecidableEq, Repr

/-- A coupler's indication record (R160). -/
structure Indication where
  form : IndicationForm
  timer : Option Nat
  deriving DecidableEq, Repr

/-- The contact input unit; `startTimer` runs the 150 ms of the first debounce (R161). -/
structure ContactUnit where
  input : Vector ContactInput 24
  indication : Vector Indication 3
  startTimer : Option Nat
  deriving DecidableEq, Repr

/-! ## Station link (chapter 10) -/

/-- The receiver (R170): its state, the bytes held since the start byte, L once formed, and the ms since the last byte. -/
structure Receiver where
  state : RxState
  held : List Byte
  len : Nat
  gap : Option Nat
  deriving DecidableEq, Repr

/-- A slot that holds a request (R172): WAITING with the request, or ANSWERED with the reply frame's bytes. -/
inductive Slot where
  | waiting (kind tag : Nat) (payload : List Byte)
  | answered (frame : List Byte)
  deriving DecidableEq, Repr

/-- The transmitter (R180): free, sending the reply of the oldest slot, or sending a notice frame. -/
inductive Transmitter where
  | free
  | reply
  | notice (frame : List Byte)
  deriving DecidableEq, Repr

/-- The load shadow while a load is open (R177); the next index is the number of points written. -/
structure TableLoad where
  coil : Coil
  count : Nat
  points : List Point
  deriving DecidableEq, Repr

/-- The station link. `slots` holds the requests in the part, oldest first, at most two: a slot that is FREE is not in it. -/
structure Link where
  rate : Nat
  rx : Receiver
  slots : List Slot
  tx : Transmitter
  load : Option TableLoad
  deriving DecidableEq, Repr

/-! ## Event and record unit (chapter 11) -/

/-- A notice (section 11.3). -/
structure Notice where
  kind : EventKind
  overrun : Bool
  time : Nat
  subject : Option Nat
  values : List (Option Int)
  deriving DecidableEq, Repr

/-- The hold timer (R188): stopped, running with its remaining ms, or expired since it was last started. -/
inductive HoldTimer where
  | stopped
  | running (remaining : Nat)
  | expired
  deriving DecidableEq, Repr

/-- The event unit: the latched and mask sets (bit k − 1 for the kind with code k), the queue and its configuration. -/
structure EventUnit where
  latched : BitVec 16
  mask : BitVec 16
  queue : List Notice
  trigger : Nat
  holdTime : Nat
  hold : HoldTimer
  overrun : Bool
  deriving DecidableEq, Repr

/-- The result of an accepted cycle (R61). -/
structure CycleResult where
  currents : Currents
  uNat : Phasor
  deriving DecidableEq, Repr

/-- A history record (R190). `after` is the estimate after the fold, with its value when it holds one. -/
structure HistoryRecord where
  number : Nat
  start : Nat
  finish : Nat
  group : Group
  sections : List Section
  lead : Coil
  level : Nat
  outcome : CycleOutcome
  abortState : Option CycleState
  quality : Quality
  coilCurrent : Nat
  fUsed : Nat
  uA : Option Phasor
  iA : Option Phasor
  uB : Option Phasor
  iB : Option Phasor
  result : Option CycleResult
  after : Option (EstState × Option Currents)
  detuning : Option Int
  deriving DecidableEq, Repr

/-- The history ring, oldest first, and the number the next record is given (R190). -/
structure HistoryRing where
  records : List HistoryRecord
  next : Nat
  deriving DecidableEq, Repr

/-! ## Settings (R199) -/

/-- The settings of the table of R199; the input debounce, polarity and assignment stand in the input records (R160). -/
structure Settings where
  gain : Vector Nat 12
  nominal : Nat
  injectorLevel : Vector Nat 4
  tSettle : Nat
  window : Nat
  tSwitch : Nat
  periodic : Nat
  jump : Nat
  uMin : Nat
  stepThreshold : Nat
  blend : Nat
  maxAge : Nat
  deadband : Nat
  plungerTolerance : Vector Nat 4
  tapTolerance : Vector Nat 4
  speed : Vector Nat 4
  margin : Vector Nat 4
  coast : Vector Nat 4
  stepLimit : Vector Nat 4
  interStep : Vector Nat 4
  moveInterval : Vector Nat 4
  uStart : Nat
  tStart : Nat
  uEnd : Nat
  tEnd : Nat
  tHold : Nat
  tMax : Nat
  discrepancy : Nat
  deriving DecidableEq, Repr

/-! ## The state -/

/-- The whole part, and the queue of the commands that wait for it. -/
structure State where
  runState : RunState
  time : Nat
  settings : Settings
  acq : Acquisition
  tracker : Tracker
  topo : Topology
  seq : Sequencer
  est : Vector Estimate 4
  reg : FeederRegister
  planner : Planner
  drive : Vector Drive 4
  sup : Supervisor
  contacts : ContactUnit
  link : Link
  events : EventUnit
  ring : HistoryRing
  pending : List Instr
  deriving DecidableEq, Repr

/-- No command of the part ends in a fault: the manual gives every command an effect in every state, and no rule names a
stop. The type is empty, so that this is visible in the type of `exec`. -/
inductive Fault where
  deriving DecidableEq, Repr

/-- Why a command is given no meaning. -/
inductive Refusal where
  /-- Raised by `exec`'s own arm for a row that has no meaning yet; safe. No row is left so. -/
  | notModelled (mnemonic : String)
  deriving DecidableEq, Repr

/-! ## The power-on values -/

/-- The defaults of the settings table (R199). -/
def Settings.defaults : Settings where
  gain := Vector.replicate 12 4096
  nominal := 50
  injectorLevel := Vector.replicate 4 4
  tSettle := 10
  window := 8
  tSwitch := 2
  periodic := 300
  jump := 50
  uMin := 30
  stepThreshold := 150
  blend := 2
  maxAge := 1800
  deadband := 100
  plungerTolerance := Vector.replicate 4 10
  tapTolerance := Vector.replicate 4 0
  speed := Vector.replicate 4 20
  margin := Vector.replicate 4 50
  coast := Vector.replicate 4 1000
  stepLimit := Vector.replicate 4 8
  interStep := Vector.replicate 4 2
  moveInterval := Vector.replicate 4 30
  uStart := 2000
  tStart := 100
  uEnd := 1000
  tEnd := 500
  tHold := 10
  tMax := 7200
  discrepancy := 500

/-- A machine at rest (R39, R56): IDLE, flag clear, lock clear, timers stopped, no capture. -/
def CycleMachine.rest : CycleMachine := ⟨.idle, false, none, none, false, none⟩

/-- An injector at power-on (R56). -/
def Injector.reset : Injector := ⟨false, 4, false, false, 4⟩

/-- An estimate record at power-on, and a record not in use (R64, R84). -/
def Estimate.reset : Estimate where
  state := .empty
  returnState := none
  value := none
  candidate := none
  disagreement := 0
  lastAccepted := none
  age := none
  lastCoilCurrent := none
  jumpReference := none
  stale := false
  early := false
  changeMark := false
  lastCycle := none
  armed := false
  quiet := []
  sinceOff := none

/-- A feeder entry at power-on (R86). -/
def Feeder.reset : Feeder := ⟨false, 0, .unknown, none, 0, none⟩

/-- A plan record at power-on, and a record not in use (R107, R118). -/
def PlanRecord.reset : PlanRecord := ⟨.notPlanned, none, none, none, none, none, none, .clear, [], none, []⟩

/-- A drive at power-on (R142). The position input as the plant shows it is not the spec's to give: it stands as an invalid
report of code 0 until the plant reports otherwise (log entry 2, DESIGN CHOICE). -/
def Drive.reset : Drive where
  state := .idle
  inputCode := 0
  inputValid := false
  position := none
  feedback := false
  pending := none
  running := none
  stopReason := none
  phase := none
  stepStart := none
  best := none
  interval := none
  travel := none
  step := none
  delay := none
  coast := none
  last := none
  raiseOut := false
  lowerOut := false

/-- An input at power-on (R160, R161): undetermined, its first debounce running with the default time. The raw level is as
sensed; LOW stands for it here (log entry 2, DESIGN CHOICE). -/
def ContactInput.reset : ContactInput := ⟨false, none, some 10, 10, false, .nothing⟩

/-- The event unit at power-on (R192), before FREQ_HELD of R17 is taken. -/
def EventUnit.reset : EventUnit := ⟨0, 0, [], 1, 200, .stopped, false⟩

/-- The part right after power-on (R195): every block in the state its chapter gives it, part time 0, and the event FREQ_HELD
with the value 1 and no subject latched and queued (R17, R192). The straps are read as low, low (log entry 2); the queue of
commands is empty. -/
def State.reset : State where
  runState := .starting
  time := 0
  settings := Settings.defaults
  acq := ⟨Vector.replicate 12 ⟨0, 0⟩, Vector.replicate 12 false, 7680⟩
  tracker := ⟨none, [], none, 50000, 7680, true⟩
  topo :=
    { coupler := Vector.replicate 3 .unknown
      coil := #v[⟨.plunger, 0, false, .absent⟩, ⟨.plunger, 1, false, .absent⟩, ⟨.plunger, 2, false, .absent⟩,
        ⟨.plunger, 3, false, .absent⟩]
      groupOf := #v[0, 1, 2, 3]
      group := Vector.replicate 4 ⟨true, none, []⟩ }
  seq := ⟨Vector.replicate 4 CycleMachine.rest, Vector.replicate 4 Injector.reset, []⟩
  est := Vector.replicate 4 Estimate.reset
  reg := ⟨Vector.replicate 48 Feeder.reset, Vector.replicate 4 ⟨[], false⟩, 0⟩
  planner := ⟨Vector.replicate 4 [], Vector.replicate 4 50, Vector.replicate 4 PlanRecord.reset⟩
  drive := Vector.replicate 4 Drive.reset
  sup := ⟨Vector.replicate 4 ⟨none, none, false⟩, Vector.replicate 4 none, [], 1⟩
  contacts := ⟨Vector.replicate 24 ContactInput.reset, Vector.replicate 3 ⟨.nothing, none⟩, some Config.firstDebounceMs⟩
  link := ⟨0, ⟨.hunt, [], 0, none⟩, [], .free, none⟩
  events :=
    { EventUnit.reset with
      latched := 0x0400
      queue := [⟨.freqHeld, false, 0, none, [some 1]⟩]
      hold := .running 200 }
  ring := ⟨[], 1⟩
  pending := []

/-! ## Named updates, one per item; their field lemmas stand in Laws/State.lean -/

/-- Write coil `c`'s drive. -/
def State.setDrive (c : Coil) (d : Drive) (s : State) : State := { s with drive := s.drive.set c d }

/-- Write group `g`'s cycle machine. -/
def State.setMachine (g : Group) (m : CycleMachine) (s : State) : State :=
  { s with seq := { s.seq with machine := s.seq.machine.set g m } }

/-- Write coil `c`'s injector. -/
def State.setInjector (c : Coil) (j : Injector) (s : State) : State :=
  { s with seq := { s.seq with injector := s.seq.injector.set c j } }

/-- Write the pending overvoltage decisions. -/
def State.setDecisions (ds : List Decision) (s : State) : State := { s with seq := { s.seq with decisions := ds } }

/-- Write group `g`'s estimate record. -/
def State.setEst (g : Group) (e : Estimate) (s : State) : State := { s with est := s.est.set g e }

/-- Write feeder `n`'s entry. -/
def State.setFeeder (n : FeederNo) (f : Feeder) (s : State) : State :=
  { s with reg := { s.reg with feeder := s.reg.feeder.set n f } }

/-- Write group `g`'s transition list. -/
def State.setList (g : Group) (l : TransitionList) (s : State) : State :=
  { s with reg := { s.reg with list := s.reg.list.set g l } }

/-- Write group `g`'s plan record. -/
def State.setPlan (g : Group) (r : PlanRecord) (s : State) : State :=
  { s with planner := { s.planner with record := s.planner.record.set g r } }

/-- Write section `q`'s supervision state. -/
def State.setWatch (q : Section) (w : SectionWatch) (s : State) : State :=
  { s with sup := { s.sup with watch := s.sup.watch.set q w } }

/-- Write group `g`'s post-fault hold. -/
def State.setHold (g : Group) (t : Option Nat) (s : State) : State :=
  { s with sup := { s.sup with hold := s.sup.hold.set g t } }

/-- Write the fault log. -/
def State.setLog (l : List EpisodeRecord) (s : State) : State := { s with sup := { s.sup with log := l } }

/-- Write input `i`'s record. -/
def State.setInput (i : ContactNo) (r : ContactInput) (s : State) : State :=
  { s with contacts := { s.contacts with input := s.contacts.input.set i r } }

/-- Write coupler `k`'s indication record. -/
def State.setIndication (k : Coupler) (r : Indication) (s : State) : State :=
  { s with contacts := { s.contacts with indication := s.contacts.indication.set k r } }

end Sys2Proof.Machine
end

