-- ==== Sys2Proof/Machine/Arith.lean ====
section
/-! DEFINITION. The arithmetic of the part (R1, section 6.2): exact intermediates, one rounding to nearest with ties away from
zero, exact square roots before rounding, and the phasor computations of chapter 1. -/

namespace Sys2Proof.Machine

/-- The nearest integer to `n / d`, ties away from zero (R1, section 6.2). Every caller's divisor is guarded as its rule states. -/
def roundDiv (n : Int) (d : Nat) : Int :=
  if 0 ≤ n then Int.ofNat ((2 * n.natAbs + d) / (2 * d)) else -Int.ofNat ((2 * n.natAbs + d) / (2 * d))

/-- `isqrtAux n k r`: `r` with the bits below `2 ^ k` chosen as large as the square stays at or below `n`. -/
def isqrtAux (n : Nat) : Nat → Nat → Nat
  | 0, r => r
  | k + 1, r => if (r + 2 ^ k) * (r + 2 ^ k) ≤ n then isqrtAux n k (r + 2 ^ k) else isqrtAux n k r

/-- The integer part of the square root. -/
def isqrt (n : Nat) : Nat := isqrtAux n (n.log2 / 2 + 1) 0

/-- round(√n) with the root taken exactly (R10): the root is compared with the halfway point, and no tie arises. -/
def roundSqrt (n : Nat) : Nat := if isqrt n * isqrt n + isqrt n < n then isqrt n + 1 else isqrt n

/-- round(x / √n) with the root taken exactly (R6): ⌊2·|x|/√n⌋ is the integer part of √(4x²/n). -/
def roundDivSqrt (x : Int) (n : Nat) : Int :=
  if 0 ≤ x then Int.ofNat ((isqrt (4 * x.natAbs * x.natAbs / n) + 1) / 2)
  else -Int.ofNat ((isqrt (4 * x.natAbs * x.natAbs / n) + 1) / 2)

/-- `x` brought within `lo..hi`. -/
def clampInt (lo hi x : Int) : Int := if x < lo then lo else if hi < x then hi else x

/-- A phasor component brought within ±32767 (R5, R6). -/
def saturate (x : Int) : Int := clampInt (-32767) 32767 x

/-- The sum of a list of integers. -/
def sumInt (xs : List Int) : Int := xs.foldl (· + ·) 0

/-- The sum of a list of naturals. -/
def sumNat (xs : List Nat) : Nat := xs.foldl (· + ·) 0

/-- |a − b| of two naturals. -/
def distance (a b : Nat) : Nat := if a ≤ b then b - a else a - b

/-- The first quarter of the cosine table, entries 0..16 (R4). -/
def cosineQuarter : List Int :=
  [32767, 32609, 32137, 31356, 30273, 28898, 27245, 25329, 23170, 20787, 18204, 15446, 12539, 9512, 6393, 3212, 0]

/-- The cosine table c[0..63] (R4), from its first quarter by the symmetries c[64−k] = c[k] and c[k+32] = −c[k]. -/
def cosineTable : List Int :=
  cosineQuarter ++ (cosineQuarter.dropLast.reverse.map (- ·)) ++ (cosineQuarter.drop 1).map (- ·)
    ++ (cosineQuarter.dropLast.reverse.dropLast)

/-- The entries c[(k + 48) mod 64], which is the sine table (R4). -/
def sineTable : List Int := cosineTable.drop 48 ++ cosineTable.take 48

/-- The exact sum of products of two lists. -/
def dot : List Int → List Int → Int
  | x :: xs, c :: cs => x * c + dot xs cs
  | _, _ => 0

/-- The code phasor of one channel's 64 samples (R4). -/
def codePhasor (xs : List Int) : Phasor :=
  ⟨roundDiv (dot xs cosineTable) 1048544, roundDiv (-dot xs sineTable) 1048544⟩

/-- The engineering phasor before its components are limited (R5). -/
def scaleExact (gain : Nat) (p : Phasor) : Phasor := ⟨roundDiv (p.re * gain) 4096, roundDiv (p.im * gain) 4096⟩

/-- A phasor with both components limited to ±32767 (R5, R6). -/
def Phasor.saturated (p : Phasor) : Phasor := ⟨saturate p.re, saturate p.im⟩

/-- re² + im², exact. -/
def Phasor.normSq (p : Phasor) : Nat := p.re.natAbs * p.re.natAbs + p.im.natAbs * p.im.natAbs

/-- The magnitude of a phasor (R10): round(√(re² + im²)), at most 65535. -/
def Phasor.magnitude (p : Phasor) : Nat := min 65535 (roundSqrt p.normSq)

/-- The componentwise difference. -/
def Phasor.sub (p q : Phasor) : Phasor := ⟨p.re - q.re, p.im - q.im⟩

/-- `p` referred to the phase of `r`, before its components are limited (R6). -/
def Phasor.referExact (r p : Phasor) : Phasor :=
  ⟨roundDivSqrt (p.re * r.re + p.im * r.im) r.normSq, roundDivSqrt (p.im * r.re - p.re * r.im) r.normSq⟩

/-- The window phasor of a list of cycle phasors (R9): the rounded mean of each component. -/
def windowPhasor (ps : List Phasor) : Phasor :=
  ⟨roundDiv (sumInt (ps.map Phasor.re)) ps.length, roundDiv (sumInt (ps.map Phasor.im)) ps.length⟩

/-- A raw sample at full scale (R7). -/
def fullScale (x : Int) : Bool := x == 32767 || x == -32767 || x == -32768

end Sys2Proof.Machine
end

