-- ==== Sys2Proof/Machine/Codes.lean ====
section
/-! DEFINITION. The codes of the records and notices (the codes table of R181, the reason and bound codes of R183, the status
table of R173, the field codes of R174). -/

namespace Sys2Proof.Machine

/-- Run state (R175). -/
def RunState.code : RunState → Nat
  | .starting => 0 | .setup => 1 | .run => 2

/-- Coupler state (R174, R181). -/
def CouplerState.code : CouplerState → Nat
  | .opened => 0 | .closed => 1 | .unknown => 2

/-- The coupler state a code names (R174). -/
def CouplerState.ofCode : Nat → Option CouplerState
  | 0 => some .opened | 1 => some .closed | 2 => some .unknown | _ => none

/-- Coil type (R174). -/
def CoilType.code : CoilType → Nat
  | .plunger => 0 | .tapped => 1

/-- The coil type a code names (R174). -/
def CoilType.ofCode : Nat → Option CoilType
  | 0 => some .plunger | 1 => some .tapped | _ => none

/-- Coil mode (R181). -/
def CoilMode.code : CoilMode → Nat
  | .absent => 0 | .parked => 1 | .manual => 2 | .auto => 3

/-- The mode a COIL_MODE request may ask for (R174). -/
def CoilMode.ofRequest : Nat → Option CoilMode
  | 1 => some .parked | 2 => some .manual | 3 => some .auto | _ => none

/-- Cycle state (R181). -/
def CycleState.code : CycleState → Nat
  | .idle => 0 | .waiting => 1 | .settleA => 2 | .windowA => 3 | .settleB => 4 | .windowB => 5

/-- Cycle outcome (R181). -/
def CycleOutcome.code : CycleOutcome → Nat
  | .accepted => 0 | .rejected => 1 | .abortedFault => 2 | .abortedOvervoltage => 3 | .abortedTopology => 4
  | .abortedMove => 5 | .abortedStop => 6 | .abortedInjector => 7

/-- Estimate state (R181). -/
def EstState.code : EstState → Nat
  | .empty => 0 | .settling => 1 | .valid => 2 | .provisional => 3 | .frozen => 4

/-- Feeder state (R174, R181). -/
def FeederState.code : FeederState → Nat
  | .out => 0 | .into => 1 | .unknown => 2

/-- The feeder state a code names (R174). -/
def FeederState.ofCode : Nat → Option FeederState
  | 0 => some .out | 1 => some .into | 2 => some .unknown | _ => none

/-- Adjustment of a transition list entry (R181). -/
def Adjustment.code : Adjustment → Nat
  | .nothing => 0 | .preTuned _ => 1 | .learning => 2

/-- The contribution an adjustment applied (R181). -/
def Adjustment.applied : Adjustment → Nat
  | .preTuned c => c | .nothing => 0 | .learning => 0

/-- Plan outcome (R181). -/
def PlanOutcome.code : PlanOutcome → Nat
  | .notPlanned => 0 | .noValue => 1 | .noAuto => 2 | .deadband => 3 | .planned => 4

/-- The bound of a RANGE_LIMIT condition (R183): 0 LOW, 1 HIGH, absent while clear. -/
def RangeLimit.boundCode : RangeLimit → Option Int
  | .clear => none | .low => some 0 | .high => some 1

/-- What was handed (R181). -/
def Handed.code : Handed → Nat
  | .target => 0 | .withdrawal => 1

/-- Drive state (R181). -/
def DriveState.code : DriveState → Nat
  | .idle => 0 | .pending => 1 | .runningUp => 2 | .runningDown => 3 | .stopping => 4 | .fault => 5

/-- Stop reason (R181). -/
def StopReason.code : StopReason → Nat
  | .reached => 0 | .redirected => 1 | .limit => 2 | .interrupted => 3 | .stopped => 4

/-- Move result (R181). -/
def MoveOutcome.code : MoveOutcome → Nat
  | .done => 0 | .offTarget => 1 | .redirected => 2 | .limit => 3 | .interrupted => 4 | .stopped => 5 | .fault => 6

/-- Fault reason (R181). -/
def FaultReason.code : FaultReason → Nat
  | .feedback => 1 | .timeout => 2 | .direction => 3

/-- Origin (R181). -/
def Origin.code : Origin → Nat
  | .auto => 0 | .manual => 1

/-- Step phase (R181). -/
def StepPhase.code : StepPhase → Nat
  | .step => 0 | .delay => 1

/-- Episode outcome (R181). -/
def EpisodeOutcome.code : EpisodeOutcome → Nat
  | .opened => 0 | .persistent => 1 | .cleared => 2 | .restarted => 3

/-- Assignment kind (R181). -/
def Assignment.kindCode : Assignment → Nat
  | .nothing => 0 | .couplerClosed _ => 1 | .couplerOpen _ => 2 | .feeder _ => 3 | .coilPark _ => 4 | .injectorFault _ => 5
  | .limitUp _ => 6 | .limitDown _ => 7

/-- The item index of an assignment, absent for NONE (R163). -/
def Assignment.item : Assignment → Option Nat
  | .nothing => none | .couplerClosed k => some k | .couplerOpen k => some k | .feeder n => some n | .coilPark c => some c
  | .injectorFault c => some c | .limitUp c => some c | .limitDown c => some c

/-- The assignment that a kind and an item index name, if any (R163): with NONE the item index must be 0 (R199). -/
def Assignment.ofCodes (kind item : Nat) : Option Assignment :=
  match kind with
  | 0 => if item = 0 then some .nothing else none
  | 1 => if h : item < 3 then some (.couplerClosed ⟨item, h⟩) else none
  | 2 => if h : item < 3 then some (.couplerOpen ⟨item, h⟩) else none
  | 3 => if h : item < 48 then some (.feeder ⟨item, h⟩) else none
  | 4 => if h : item < 4 then some (.coilPark ⟨item, h⟩) else none
  | 5 => if h : item < 4 then some (.injectorFault ⟨item, h⟩) else none
  | 6 => if h : item < 4 then some (.limitUp ⟨item, h⟩) else none
  | 7 => if h : item < 4 then some (.limitDown ⟨item, h⟩) else none
  | _ => none

/-- The value of the setting 0x0062: 256·kind + item index (R199). -/
def Assignment.settingValue (a : Assignment) : Nat := 256 * a.kindCode + a.item.getD 0

/-- Indication form (R181). -/
def IndicationForm.code : IndicationForm → Nat
  | .nothing => 0 | .singleClosed => 1 | .singleOpen => 2 | .double => 3

/-- Event kind code, 1..16 (R183). -/
def EventKind.code : EventKind → Nat
  | .estimate => 1 | .cycleAborted => 2 | .moveDone => 3 | .driveFault => 4 | .episodeStart => 5 | .episodeEnd => 6
  | .episodePersistent => 7 | .groupChange => 8 | .inputChange => 9 | .rangeLimit => 10 | .freqHeld => 11 | .injector => 12
  | .unstable => 13 | .stale => 14 | .contribUpdated => 15 | .noticeOverrun => 16

/-- The reason an ESTIMATE event gives (R74). -/
inductive EstReason where
  | settled | step | confirmed | preTuned | merged | split
  deriving DecidableEq, Repr

/-- ESTIMATE reason codes (R183). -/
def EstReason.code : EstReason → Nat
  | .settled => 1 | .step => 2 | .confirmed => 3 | .preTuned => 4 | .merged => 5 | .split => 6

/-- A section set as its mask: bit s for section s (R181). -/
def sectionMask (qs : List Section) : Nat :=
  (List.finRange 4).foldl (fun m q => if qs.contains q then m + 2 ^ q.val else m) 0

/-- A flag as a number. -/
def bit (b : Bool) : Nat := if b then 1 else 0

/-- Bits packed from bit 0 up (R181). -/
def packBits : List Bool → Nat
  | [] => 0
  | b :: bs => bit b + 2 * packBits bs

/-- The quality flags as bits 0..10 (R181). -/
def Quality.bits (q : Quality) : Nat :=
  packBits [q.freqHeld, q.saturatedInput, q.moved, q.lowResponse, q.dampClamped, q.icSaturated, q.gSaturated, q.icNonpos,
    q.outlier, q.step, q.provisionalConfirm]

/-- The NOT_READY reasons (R173). -/
inductive NotReadyReason where
  | starting
  | coilWithoutTable (c : Coil)
  deriving DecidableEq, Repr

/-- The status of a reply with its details (R173). -/
inductive Status where
  | ok | clamped | unknownKind | badLength | badValue | wrongState | wrongMode | assigned | faultActive | noTable
  | tableInvalid (index : Nat)
  | notOpen | full
  | notReady (reason : NotReadyReason)
  deriving DecidableEq, Repr

/-- Status codes (R173). -/
def Status.code : Status → Nat
  | .ok => 0 | .clamped => 1 | .unknownKind => 2 | .badLength => 3 | .badValue => 4 | .wrongState => 5 | .wrongMode => 6
  | .assigned => 7 | .faultActive => 8 | .noTable => 9 | .tableInvalid _ => 10 | .notOpen => 11 | .full => 12 | .notReady _ => 13

/-- Whether the kind's result follows the status: absent after UNKNOWN_KIND, BAD_LENGTH and NOT_READY (R173). -/
def Status.hasResult : Status → Bool
  | .unknownKind => false | .badLength => false | .notReady _ => false
  | .ok => true | .clamped => true | .badValue => true | .wrongState => true | .wrongMode => true | .assigned => true
  | .faultActive => true | .noTable => true | .tableInvalid _ => true | .notOpen => true | .full => true

/-- Whether the request was taken: OK or CLAMPED. -/
def Status.taken : Status → Bool
  | .ok => true | .clamped => true
  | _ => false

end Sys2Proof.Machine
end

