-- ==== Sys2Proof/Machine/Flags.lean ====
section
/-! DEFINITION. The event unit: the latched flags, the masks, the notice queue and the overrun mark (R184 to R189). -/

namespace Sys2Proof.Machine

/-- The bit of an event kind in the latched and mask sets (R181): bit k − 1 for code k. -/
def EventKind.bitSet (k : EventKind) : BitVec 16 := BitVec.ofNat 16 (2 ^ (k.code - 1))

/-- Whether a set holds a kind's bit. -/
def inSet (set : BitVec 16) (k : EventKind) : Bool := set.getLsbD (k.code - 1)

/-- Latch a kind's flag (R185). -/
def EventUnit.latch (k : EventKind) (u : EventUnit) : EventUnit := { u with latched := u.latched ||| k.bitSet }

/-- Queue a notice (R187): append it while fewer than 32 are held, carrying and clearing a pending overrun mark; otherwise drop
it, latch NOTICE_OVERRUN and set the mark pending. The hold timer starts when the queue goes from empty to not empty (R188). -/
def EventUnit.enqueue (k : EventKind) (subject : Option Nat) (values : List (Option Int)) (time : Nat) (u : EventUnit) :
    EventUnit :=
  if u.queue.length < Config.queueCapacity then
    { u with
      queue := u.queue ++ [⟨k, u.overrun, time, subject, values⟩]
      overrun := false
      hold := if u.queue.isEmpty then .running u.holdTime else u.hold }
  else
    { u.latch .noticeOverrun with overrun := true }

/-- One arrival at the event unit (R184): stamp, latch, then queue a notice unless the kind is masked or NOTICE_OVERRUN. -/
def EventUnit.arrive (k : EventKind) (subject : Option Nat) (values : List (Option Int)) (time : Nat) (u : EventUnit) :
    EventUnit :=
  if inSet u.mask k || k == .noticeOverrun then u.latch k else (u.latch k).enqueue k subject values time

/-- A block raises an event (R184); it is stamped with the part time of the moment. -/
def raiseEvent (k : EventKind) (subject : Option Nat) (values : List (Option Int)) (s : State) : State :=
  { s with events := s.events.arrive k subject values s.time }

/-- A notice frame is ready (R188): the queue is not empty, and it holds the trigger level or the hold timer has expired. -/
def EventUnit.frameReady (u : EventUnit) : Bool :=
  !u.queue.isEmpty && (decide (u.trigger ≤ u.queue.length) || u.hold == .expired)

/-- The transmitter has taken the whole queue (R189): it is empty and the hold timer is stopped. -/
def EventUnit.taken (u : EventUnit) : EventUnit := { u with queue := [], hold := .stopped }

/-- RESTART on the event unit (R193). -/
def EventUnit.restarted (u : EventUnit) : EventUnit :=
  { u with latched := 0, queue := [], hold := .stopped, overrun := false }

/-- An absent or present number as an event value. -/
def value (n : Option Nat) : Option Int := n.map Int.ofNat

/-- A number that is always present, as an event value. -/
def val (n : Nat) : Option Int := some (Int.ofNat n)

end Sys2Proof.Machine
end

