-- ==== Sys2Proof/Machine/Ops.lean ====
section
/-! DEFINITION. The queries and small operations that several blocks share: the group table as others read it, calibration
tables and present currents, triggers and timers of the cycle machines, the history ring and the abort of a cycle. -/

namespace Sys2Proof.Machine

/-- A timer that was started with a time in ms and runs down. -/
abbrev Timer := Option Nat

/-- A setting in seconds as a running timer. -/
def secondsTimer (seconds : Nat) : Timer := some (seconds * 1000)

/-- The four section, group and coil numbers in increasing order. -/
def four : List (Fin 4) := [0, 1, 2, 3]

/-! ## The group table as the blocks read it (R26) -/

/-- The sections of group `g`, in increasing order. -/
def Topology.sections (t : Topology) (g : Group) : List Section := four.filter (fun q => t.groupOf[q] == g)

/-- Group number `g` is in use: section `g` is the lowest of its group (R26, R39). -/
def Topology.inUse (t : Topology) (g : Group) : Bool := t.groupOf[g] == g

/-- The group numbers in use, in increasing order. -/
def Topology.groups (t : Topology) : List Group := four.filter t.inUse

/-- A coil takes part in its group: mode MANUAL or AUTO (R26). -/
def CoilMode.member : CoilMode → Bool
  | .manual => true | .auto => true | .absent => false | .parked => false

/-- The group of a coil's section. -/
def Topology.groupOfCoil (t : Topology) (c : Coil) : Group := t.groupOf[(t.coil[c]).sect]

/-- The members of group `g` as R26 defines them, by coil number. -/
def Topology.membersOf (t : Topology) (g : Group) : List Coil :=
  four.filter (fun c => (t.coil[c]).mode.member && t.groupOfCoil c == g)

/-- The sections that an UNKNOWN coupler touches (R27). -/
def Topology.touchedByUnknown (t : Topology) : List Section :=
  (if t.coupler[0] == .unknown then [0, 1] else []) ++ (if t.coupler[1] == .unknown then [1, 2] else [])
    ++ (if t.coupler[2] == .unknown then [2, 3] else [])

/-- The held flag of group `g` (R27): it contains section k or k + 1 of an UNKNOWN coupler k. -/
def Topology.heldOf (t : Topology) (g : Group) : Bool := (t.sections g).any t.touchedByUnknown.contains

/-- The group of each section by the coupler states (R26): a CLOSED coupler joins its two sections. -/
def groupTable (coupler : Vector CouplerState 3) : Vector Section 4 :=
  let g1 : Section := if coupler[0] == .closed then 0 else 1
  let g2 : Section := if coupler[1] == .closed then g1 else 2
  let g3 : Section := if coupler[2] == .closed then g2 else 3
  #v[0, g1, g2, g3]

/-- The lead coil of group `g` (R28): the lowest AUTO member with an available injector, else the lowest MANUAL one. -/
def Topology.leadOf (available : Coil → Bool) (t : Topology) (g : Group) : Option Coil :=
  let ready := (t.membersOf g).filter available
  match ready.find? (fun c => (t.coil[c]).mode == .auto) with
  | some c => some c
  | none => ready.head?

/-- The row of group number `g` (R26 to R28); the row of a number not in use is empty. -/
def Topology.rowOf (available : Coil → Bool) (t : Topology) (g : Group) : GroupInfo :=
  if t.inUse g then ⟨t.heldOf g, t.leadOf available g, t.membersOf g⟩ else ⟨false, none, []⟩

/-- The group table, held flags, members and leads recomputed from the couplers, the coil records and the availability of the
injectors (steps 2 and 3 of R30). -/
def Topology.recomputed (available : Coil → Bool) (t : Topology) : Topology :=
  let t' := { t with groupOf := groupTable t.coupler }
  { t' with group := #v[t'.rowOf available 0, t'.rowOf available 1, t'.rowOf available 2, t'.rowOf available 3] }

/-! ## Contact inputs as the owners of the items test them (R160) -/

/-- Whether an input is active; absent while its debounced level is undetermined (R160). -/
def ContactInput.active (i : ContactInput) : Option Bool := i.level.map (fun l => l != i.inverted)

/-- Some input assigned `a` is active. -/
def anyActive (s : State) (a : Assignment) : Bool :=
  s.contacts.input.toList.any (fun i => i.assignment == a && i.active == some true)

/-- Some input is assigned `a`. -/
def anyAssigned (s : State) (a : Assignment) : Bool := s.contacts.input.toList.any (fun i => i.assignment == a)

/-- The availability of coil `c`'s injector as R36 defines it, for a topology. -/
def availability (s : State) (t : Topology) (c : Coil) : Bool :=
  (t.coil[c]).injector && (t.coil[c]).mode.member && !anyActive s (.injectorFault c)

/-! ## Episode and frozen conditions (the table at the head of chapter 8) -/

/-- An episode is open while its outcome is OPEN or PERSISTENT (R153). -/
def EpisodeRecord.isOpen (e : EpisodeRecord) : Bool := e.outcome == .opened || e.outcome == .persistent

/-- The open episode that section `q` belongs to, if any. -/
def openEpisode (s : State) (q : Section) : Option EpisodeRecord :=
  s.sup.log.find? (fun e => e.isOpen && e.sections.contains q)

/-- The episode condition of group `g`: a section of the group belongs to an open episode. -/
def episodeCondition (s : State) (g : Group) : Bool := (s.topo.sections g).any (fun q => (openEpisode s q).isSome)

/-- The frozen condition of group `g`: the episode condition holds, or its post-fault hold is running. -/
def frozen (s : State) (g : Group) : Bool := episodeCondition s g || (s.sup.hold[g]).isSome

/-! ## Calibration tables and present currents (R102, R103, R105) -/

/-- Forward interpolation within the segments of a table after its first point (R102). -/
def interpolate (p : Nat) : Point → List Point → Nat
  | a, [] => a.cur
  | a, b :: rest =>
    if p ≤ a.pos then a.cur
    else if p ≤ b.pos then
      ((a.cur : Int) + roundDiv (((p : Int) - a.pos) * ((b.cur : Int) - a.cur)) (b.pos - a.pos)).toNat
    else interpolate p b rest

/-- The current of a committed table at a position (R102); absent for the empty table (R105). -/
def tableCurrent (t : List Point) (p : Nat) : Option Nat :=
  match t with
  | [] => none
  | a :: rest => some (interpolate p a rest)

/-- Inverse interpolation within the segments of a table after its first point (R103). -/
def interpolateInverse (cur : Nat) : Point → List Point → Nat
  | a, [] => a.pos
  | a, b :: rest =>
    if cur ≤ a.cur then a.pos
    else if cur ≤ b.cur then
      ((a.pos : Int) + roundDiv (((cur : Int) - a.cur) * ((b.pos : Int) - a.pos)) (b.cur - a.cur)).toNat
    else interpolateInverse cur b rest

/-- The position of a table for a current (R103); 0 for the empty table, which no caller uses. -/
def tablePosition (t : List Point) (cur : Nat) : Nat :=
  match t with
  | [] => 0
  | a :: rest => interpolateInverse cur a rest

/-- The position range p₀..p_{n−1} of a table. -/
def tableRange (t : List Point) : Option (Nat × Nat) :=
  match t with
  | [] => none
  | a :: rest => some (a.pos, ((a :: rest).getLast (by simp)).pos)

/-- The minimum and maximum current of a table (R101). -/
def tableLimits (t : List Point) : Option (Nat × Nat) :=
  match t with
  | [] => none
  | a :: rest => some (a.cur, ((a :: rest).getLast (by simp)).cur)

/-- A position brought to the nearer end of a table's range (R122, R137). -/
def clampToTable (t : List Point) (p : Nat) : Nat :=
  match tableRange t with
  | none => p
  | some (lo, hi) => if p < lo then lo else if hi < p then hi else p

/-- The present current of coil `c` (R105): none without a table or without a present position (R120). -/
def presentCurrent (s : State) (c : Coil) : Option Nat :=
  match (s.drive[c]).position with
  | none => none
  | some p => tableCurrent s.planner.table[c] p

/-- The sum of the present currents of coils, a coil without one counting 0 (R105). -/
def currentSum (s : State) (cs : List Coil) : Nat := sumNat (cs.map (fun c => (presentCurrent s c).getD 0))

/-- I_L_present of group `g` (R63): the sum over its members. -/
def groupCurrent (s : State) (g : Group) : Nat := currentSum s (s.topo.group[g]).members

/-- The stop tolerance of a coil (section 7.2): by its type, the plunger's or the tap's. -/
def stopTolerance (s : State) (c : Coil) : Nat :=
  match (s.topo.coil[c]).type with
  | .plunger => s.settings.plungerTolerance[c]
  | .tapped => s.settings.tapTolerance[c]

/-- A drive is RUNNING_UP or RUNNING_DOWN. -/
def DriveState.running : DriveState → Bool
  | .runningUp => true | .runningDown => true
  | .idle => false | .pending => false | .stopping => false | .fault => false

/-- A drive blocks a cycle's start: RUNNING_UP, RUNNING_DOWN or STOPPING (R40). -/
def DriveState.moving : DriveState → Bool
  | .runningUp => true | .runningDown => true | .stopping => true
  | .idle => false | .pending => false | .fault => false

/-! ## Triggers and timers of the cycle machines (R44 to R47) -/

/-- A cycle is in flight (section 3.2). -/
def CycleState.inFlight : CycleState → Bool
  | .settleA => true | .windowA => true | .settleB => true | .windowB => true
  | .idle => false | .waiting => false

/-- A trigger reaches a machine (R44): the flag is set, and a machine in IDLE goes to WAITING. -/
def CycleMachine.triggered (m : CycleMachine) : CycleMachine :=
  { m with flag := true, state := if m.state = .idle then .waiting else m.state }

/-- A trigger reaches group `g`'s flag (R44); in STARTING no trigger is taken (R195). -/
def setFlag (g : Group) (s : State) : State :=
  if s.runState = .starting then s else s.setMachine g (s.seq.machine[g]).triggered

/-- A switching trigger for group `g` (R45): the switching delay restarts with T_switch; with T_switch 0 it expires as it is
started, and the flag is set. -/
def switchTrigger (g : Group) (s : State) : State :=
  if s.runState = .starting then s
  else if s.settings.tSwitch = 0 then
    setFlag g (s.setMachine g { s.seq.machine[g] with switching := none })
  else s.setMachine g { s.seq.machine[g] with switching := secondsTimer s.settings.tSwitch }

/-- The periodic timer as a restart leaves it (R47): stopped when the interval is 0. -/
def periodicTimer (s : State) : Timer := if s.settings.periodic = 0 then none else secondsTimer s.settings.periodic

/-- Restart group `g`'s periodic timer (R47). -/
def restartPeriodic (g : Group) (s : State) : State :=
  s.setMachine g { s.seq.machine[g] with periodic := periodicTimer s }

/-! ## Injector outputs (R38) -/

/-- Coil `c`'s injector switched on at phase 0° and the given level (R40). -/
def injectorOn (c : Coil) (level : Nat) (s : State) : State :=
  s.setInjector c { s.seq.injector[c] with enable := true, phase180 := false, level := level }

/-- Coil `c`'s injector flipped to 180° (R41). -/
def injectorFlip (c : Coil) (s : State) : State :=
  s.setInjector c { s.seq.injector[c] with phase180 := true }

/-- Coil `c`'s injector switched off (R38): enable off, phase 0°, the level output shows the effective level. The boundaries
since this switch-off are counted for group `g` (R54). -/
def injectorOff (c : Coil) (g : Group) (s : State) : State :=
  let s := s.setInjector c
    { s.seq.injector[c] with enable := false, phase180 := false, level := (s.seq.injector[c]).effective }
  s.setEst g { s.est[g] with sinceOff := some 0 }

/-- Write the effective level of coil `c`'s injector (R37); while it is off the level output shows it (R38). -/
def setEffective (c : Coil) (level : Nat) (s : State) : State :=
  s.setInjector c
    { s.seq.injector[c] with
      effective := level
      level := if (s.seq.injector[c]).enable then (s.seq.injector[c]).level else level }

/-- The event INJECTOR for coil `c` with a reason (R36, R37): 1 an availability change, 2 a false start. -/
def raiseInjector (c : Coil) (reason : Nat) (s : State) : State :=
  raiseEvent .injector (some c)
    [val (bit (s.seq.injector[c]).available), val (s.seq.injector[c]).effective, val s.settings.injectorLevel[c], val reason] s

/-! ## The history ring (R190) -/

/-- Append a record: it takes the next number; a full ring loses its oldest; a wrap of the counter to 1 empties the ring. -/
def HistoryRing.append (r : HistoryRecord) (h : HistoryRing) : HistoryRing :=
  let kept := if h.next = 1 then [] else if h.records.length < Config.ringCapacity then h.records else h.records.drop 1
  { records := kept ++ [{ r with number := h.next }], next := if h.next = 2 ^ 32 - 1 then 1 else h.next + 1 }

/-- Hand a record to the record unit. -/
def appendHistory (r : HistoryRecord) (s : State) : State := { s with ring := s.ring.append r }

/-- The record of a cycle from its capture (R190), with the end time and f_used of this moment. -/
def captureRecord (k : Capture) (outcome : CycleOutcome) (abortState : Option CycleState) (quality : Quality)
    (result : Option CycleResult) (after : Option (EstState × Option Currents)) (detuning : Option Int) (s : State) :
    HistoryRecord where
  number := 0
  start := k.start
  finish := s.time
  group := k.group
  sections := k.sections
  lead := k.lead
  level := k.level
  outcome := outcome
  abortState := abortState
  quality := quality
  coilCurrent := k.coilCurrent
  fUsed := s.tracker.fUsed
  uA := k.uA
  iA := k.iA
  uB := k.uB
  iB := k.iB
  result := result
  after := after
  detuning := detuning

/-! ## Aborts (R48) -/

/-- A machine at the end of a cycle (R42, R48): no capture, lock clear, WAITING when the flag is set and IDLE otherwise. -/
def CycleMachine.ended (m : CycleMachine) : CycleMachine :=
  { m with capture := none, lock := false, state := if m.flag then .waiting else .idle }

/-- Abort the cycle in flight of group `g` with outcome `o` (R48). A machine with no cycle in flight is left as it is. The flag
is as it was, but for ABORTED_INJECTOR, which sets it (the table of section 3.5). -/
def abortCycle (g : Group) (o : CycleOutcome) (s : State) : State :=
  match (s.seq.machine[g]).capture with
  | none => s
  | some k =>
    if (s.seq.machine[g]).state.inFlight then
      let at_ := (s.seq.machine[g]).state
      let s := injectorOff k.lead g s
      let s := s.setMachine g { s.seq.machine[g] with lock := false }
      let s := appendHistory (captureRecord k o (some at_) k.quality none none none s) s
      let s := s.setEst g { s.est[g] with lastCycle := some (o, k.quality), early := false }
      let s := raiseEvent .cycleAborted (some g) [val o.code, val k.lead, val at_.code, val k.level] s
      let s := restartPeriodic g s
      let m := s.seq.machine[g]
      s.setMachine g ({ m with flag := m.flag || decide (o = CycleOutcome.abortedInjector) }).ended
    else s

/-- Apply an operation to each item of a list in order. -/
def forEach {α : Type} (xs : List α) (f : α → State → State) (s : State) : State := xs.foldl (fun s x => f x s) s

/-- Leaving RUN (R52): every cycle in flight is aborted with ABORTED_STOP, in increasing group number (log entry 42, DESIGN
CHOICE). -/
def abortAll (o : CycleOutcome) (s : State) : State := forEach four (fun g => abortCycle g o) s

end Sys2Proof.Machine
end

