-- ==== Sys2Proof/Machine/Drives.lean ====
section
/-! DEFINITION. The coil drives (chapter 7): the pending register, the start of a move, the stop of a move and its result. The
faults and the position reports stand in Feedback.lean, since a fault asks the planner for a planning. -/

namespace Sys2Proof.Machine

/-! ## The move result (R132, R133) -/

/-- The interval timer as a move end starts it (R133): a move interval of 0 makes it expire as it is started. -/
def intervalTimer (s : State) (c : Coil) : Timer :=
  if s.settings.moveInterval[c] = 0 then none else secondsTimer s.settings.moveInterval[c]

/-- The end of a move of coil `c` reaches the sequencer (R45): in RUN, for a member coil, a switching trigger of its group. -/
def moveEndTrigger (c : Coil) (s : State) : State :=
  if s.runState = .run ∧ (s.topo.coil[c]).mode.member = true then switchTrigger (s.topo.groupOfCoil c) s else s

/-- Report a move's end with `result` for the target `t` (R132): last move result, next state, MOVE_DONE and the hand-off to the
sequencer. The interval timer starts when the move energized an output. -/
def finishMove (c : Coil) (result : MoveOutcome) (t : Target) (energized : Bool) (s : State) : State :=
  let d := s.drive[c]
  let s := s.setDrive c
    { d with
      last := some ⟨result, none, d.position, some t.pos, some t.origin, s.time⟩
      running := none
      stopReason := none
      coast := none
      interval := if energized then intervalTimer s c else d.interval
      state := if d.pending.isSome then .pending else .idle }
  let s := raiseEvent .moveDone (some c) [val result.code, value d.position, val t.pos, val t.origin.code] s
  moveEndTrigger c s

/-- The result a stop reason gives at the end of the coast (the table of R132). -/
def coastResult (reason : StopReason) (withinTolerance : Bool) : MoveOutcome :=
  match reason with
  | .reached => if withinTolerance then .done else .offTarget
  | .redirected => .redirected
  | .limit => .limit
  | .interrupted => .interrupted
  | .stopped => .stopped

/-- A position lies within the tolerance of a target position. -/
def withinTolerance (tolerance : Nat) (position : Option Nat) (target : Nat) : Bool :=
  match position with
  | none => false
  | some p => decide (distance p target ≤ tolerance)

/-- The coast of coil `c` ends (R132). -/
def endCoast (c : Coil) (s : State) : State :=
  let d := s.drive[c]
  match d.running, d.stopReason with
  | some t, some r => finishMove c (coastResult r (withinTolerance (stopTolerance s c) d.position t.pos)) t true s
  | _, _ => s

/-- Entry into STOPPING with a stop reason (R132): outputs off, travel, step and delay timers stopped, the coast timer started;
a coast time of 0 ends the coast as it begins. -/
def enterStopping (c : Coil) (reason : StopReason) (s : State) : State :=
  let s := s.setDrive c
    { s.drive[c] with
      state := .stopping
      raiseOut := false
      lowerOut := false
      travel := none
      step := none
      delay := none
      phase := none
      stepStart := none
      best := none
      stopReason := some reason
      coast := some s.settings.coast[c] }
  if s.settings.coast[c] = 0 then endCoast c s else s

/-- Stop coil `c`'s move if one runs. -/
def stopIfRunning (c : Coil) (reason : StopReason) (s : State) : State :=
  if (s.drive[c]).state.running then enterStopping c reason s else s

/-! ## The stop condition (R128) -/

/-- The stop condition of R128: the present position is at or past the running target less the tolerance, in the direction of
travel. -/
def stopReached (d : Drive) (tolerance : Nat) : Bool :=
  match d.position, d.running with
  | some p, some t =>
    match d.state with
    | .runningUp => decide (t.pos ≤ p + tolerance)
    | .runningDown => decide (p ≤ t.pos + tolerance)
    | .idle => false | .pending => false | .stopping => false | .fault => false
  | _, _ => false

/-- Test the stop condition of coil `c` (R128); when it holds, the move stops as REACHED. -/
def testStop (c : Coil) (s : State) : State :=
  if stopReached s.drive[c] (stopTolerance s c) then enterStopping c .reached s else s

/-! ## The start of a move (R126, R127, R130) -/

/-- The start gates of coil `c`'s drive all hold for the target `t` (R126). -/
def startGates (s : State) (c : Coil) (t : Target) : Bool :=
  let g := s.topo.groupOfCoil c
  (s.drive[c]).interval.isNone && !episodeCondition s g
    && (t.origin == .manual
      || (s.runState == .run && !(s.topo.group[g]).held && !frozen s g && !(s.seq.machine[g]).lock))

/-- The target coil `c`'s drive would start now: its pending target, when the drive is PENDING and every gate holds (R126). A gate
that changes lets the start follow as the row MOVE_START (log entry 12). -/
def startable (s : State) (c : Coil) : Option Target :=
  if (s.drive[c]).state = .pending then (s.drive[c]).pending.filter (startGates s c) else none

/-- The travel limit of a plunger move over `dist` counts (R129), in ms. -/
def travelLimit (s : State) (c : Coil) (dist : Nat) : Nat :=
  (roundDiv ((dist * 1000 * (100 + s.settings.margin[c]) : Nat) : Int) (s.settings.speed[c] * 100)).toNat + 2000

/-- The travel timer as a start or an extension starts it (R129); a tapped coil uses none (R130). -/
def travelTimer (s : State) (c : Coil) (target : Nat) : Timer :=
  match (s.topo.coil[c]).type, (s.drive[c]).position with
  | .plunger, some p => some (travelLimit s c (distance p target))
  | _, _ => none

/-- Begin a STEP of a tapped coil in its direction (R130): the output on, the step timer started. -/
def beginStep (c : Coil) (s : State) : State :=
  let d := s.drive[c]
  s.setDrive c
    { d with
      phase := some .step
      stepStart := d.position
      step := secondsTimer s.settings.stepLimit[c]
      delay := none
      raiseOut := d.state == .runningUp
      lowerOut := d.state == .runningDown }

/-- Begin the inter-step DELAY of a tapped coil (R130): outputs off, the delay timer started. -/
def beginDelay (c : Coil) (s : State) : State :=
  s.setDrive c
    { s.drive[c] with
      phase := some .delay
      stepStart := none
      step := none
      delay := secondsTimer s.settings.interStep[c]
      raiseOut := false
      lowerOut := false }

/-- Energize the output of a direction (step 3 of R127): a plunger starts its travel timer and best position, a tapped coil its
first step. -/
def beginRun (c : Coil) (up : Bool) (t : Target) (s : State) : State :=
  let s := s.setDrive c { s.drive[c] with state := if up then .runningUp else .runningDown }
  match (s.topo.coil[c]).type with
  | .tapped => beginStep c s
  | .plunger =>
    s.setDrive c
      { s.drive[c] with
        raiseOut := up
        lowerOut := !up
        best := (s.drive[c]).position
        travel := travelTimer s c t.pos }

/-- The limit contact of a direction is active for coil `c` (R127, R130, R131). -/
def limitActive (s : State) (c : Coil) (up : Bool) : Bool :=
  if up then anyActive s (.limitUp c) else anyActive s (.limitDown c)

/-- Start the pending target `t` of coil `c` (R127). A start of origin MANUAL that would energize an output while the group's
measurement lock is set has the cycle aborted first (R43, R126). -/
def startMove (c : Coil) (t : Target) (s : State) : State :=
  match (s.drive[c]).position with
  | none => s
  | some p =>
    let s := s.setDrive c { s.drive[c] with pending := none, running := some t }
    if withinTolerance (stopTolerance s c) (some p) t.pos then finishMove c .done t false s
    else
      let up := decide (p < t.pos)
      if limitActive s c up then finishMove c .limit t false s
      else
        let g := s.topo.groupOfCoil c
        let s := if t.origin = .manual ∧ (s.seq.machine[g]).lock = true then abortCycle g .abortedMove s else s
        beginRun c up t s

/-! ## Targets (R121, R123, R124) -/

/-- An origin matches a coil's mode (R121). -/
def Origin.admits : Origin → CoilMode → Bool
  | .auto, .auto => true
  | .manual, .manual => true
  | _, _ => false

/-- A running drive's target may be extended in its direction (R123). -/
def extendsRun (d : Drive) (target : Nat) : Bool :=
  match d.position, d.state with
  | some p, .runningUp => decide (p < target)
  | some p, .runningDown => decide (target < p)
  | _, _ => false

/-- A target becomes or replaces the pending one of a drive in IDLE or PENDING (R123), and the gates are tested at once: where
they hold the move starts within this step (R126, R127), and a MANUAL start that energizes an output aborts the cycle that holds
the lock (R43, R52). -/
def takeTarget (c : Coil) (t : Target) (s : State) : State :=
  let s := s.setDrive c { s.drive[c] with state := .pending, pending := some t }
  if startGates s c t then startMove c t s else s

/-- A new target reaches coil `c`'s drive (R121, R123). -/
def newTarget (c : Coil) (t : Target) (s : State) : State :=
  let d := s.drive[c]
  if t.origin.admits (s.topo.coil[c]).mode then
    match d.state with
    | .fault => s
    | .idle => takeTarget c t s
    | .pending => takeTarget c t s
    | .stopping => s.setDrive c { d with pending := some t }
    | .runningUp | .runningDown =>
      if d.running.map Target.pos = some t.pos then s
      else if extendsRun d t.pos then
        testStop c (s.setDrive c
          { d with running := some t, travel := travelTimer s c t.pos })
      else enterStopping c .redirected (s.setDrive c { d with pending := some t })
  else s

/-- Clear a drive's pending target; PENDING then goes to IDLE. -/
def Drive.withoutPending (d : Drive) : Drive :=
  { d with pending := none, state := if d.state = .pending then .idle else d.state }

/-- The pending target of a drive has this origin. -/
def Drive.pendingFrom (d : Drive) (o : Origin) : Bool := d.pending.map Target.origin == some o

/-- The running target of a drive has this origin. -/
def Drive.runningFrom (d : Drive) (o : Origin) : Bool := d.running.map Target.origin == some o

/-- A withdrawal reaches coil `c`'s drive (R124): a pending target of origin AUTO is removed. -/
def withdraw (c : Coil) (s : State) : State :=
  if (s.drive[c]).pendingFrom .auto then s.setDrive c (s.drive[c]).withoutPending else s

/-- Clear a pending target of one origin, and stop a running move of that origin as INTERRUPTED (R135, R136). -/
def dropOrigin (o : Origin) (c : Coil) (s : State) : State :=
  let s := if (s.drive[c]).pendingFrom o then s.setDrive c (s.drive[c]).withoutPending else s
  if (s.drive[c]).runningFrom o then stopIfRunning c .interrupted s else s

/-- A mode change reaches coil `c`'s drive (R135), from the mode it had to the mode it has. -/
def modeChangeDrive (c : Coil) (old new : CoilMode) (s : State) : State :=
  match old, new with
  | .auto, .manual => dropOrigin .auto c s
  | .manual, .auto => dropOrigin .manual c s
  | .manual, .parked | .auto, .parked =>
    stopIfRunning c .interrupted (s.setDrive c (s.drive[c]).withoutPending)
  | _, _ => s

/-- A new position range of coil `c`'s table reaches its drive (R137): targets outside it are brought to its nearer end, and a
changed running target is tested against the stop condition at once. -/
def newRange (c : Coil) (s : State) : State :=
  let d := s.drive[c]
  let bring := fun t : Target => { t with pos := clampToTable s.planner.table[c] t.pos }
  let s' := s.setDrive c { d with pending := d.pending.map bring, running := d.running.map bring }
  if d.running.map bring = d.running then s' else testStop c s'

/-! ## Limit contacts (R131) -/

/-- A limit contact of coil `c` becomes active: a move in its direction stops with LIMIT. -/
def limitContact (c : Coil) (up : Bool) (s : State) : State :=
  if (s.drive[c]).state = (if up then .runningUp else .runningDown) then enterStopping c .limit s else s

end Sys2Proof.Machine
end

