-- ==== Sys2Proof/Machine/Planner.lean ====
section
/-! DEFINITION. The tuning planner (chapter 6): the table check of a commit, the plan record, the target, the allocation and the
hand-over to the drives. -/

namespace Sys2Proof.Machine

/-! ## The commit check (R101) -/

/-- Point `i` of a shadow is bad (R101): its position or current is out of range for the coil type, or not above the point
before it. -/
def badPoint (type : CoilType) (i : Nat) (previous : Option Point) (p : Point) : Bool :=
  !(decide (1 ≤ p.cur) && decide (p.cur ≤ 65535))
    || (match type with
      | .plunger => !decide (p.pos ≤ 4095)
      | .tapped => !decide (p.pos = i + 1))
    || (match previous with
      | none => false
      | some q => !decide (q.pos < p.pos) || !decide (q.cur < p.cur))

/-- The index of the first bad point of a list of points, examined in index order. -/
def firstBadFrom (type : CoilType) : Nat → Option Point → List Point → Option Nat
  | _, _, [] => none
  | i, previous, p :: rest => if badPoint type i previous p then some i else firstBadFrom type (i + 1) (some p) rest

/-- The index of the first bad point of a load (R101), an unwritten point being bad. -/
def TableLoad.firstBad (type : CoilType) (l : TableLoad) : Option Nat :=
  match firstBadFrom type 0 none l.points with
  | some i => some i
  | none => if l.points.length < l.count then some l.points.length else none

/-! ## The plan of a group (R109 to R116) -/

/-- A movable coil as an allocation sees it: its number, type and table. -/
structure Movable where
  coil : Coil
  type : CoilType
  table : List Point
  deriving DecidableEq, Repr

/-- The minimum current of a movable coil (R101). -/
def Movable.min (m : Movable) : Nat := ((tableLimits m.table).getD (0, 0)).1

/-- The maximum current of a movable coil (R101). -/
def Movable.max (m : Movable) : Nat := ((tableLimits m.table).getD (0, 0)).2

/-- The span of a movable coil (R101). -/
def Movable.span (m : Movable) : Nat := m.max - m.min

/-- The sum of the minima. -/
def sumMin (ms : List Movable) : Nat := sumNat (ms.map Movable.min)

/-- The sum of the maxima. -/
def sumMax (ms : List Movable) : Nat := sumNat (ms.map Movable.max)

/-- The sum of the spans. -/
def sumSpan (ms : List Movable) : Nat := sumNat (ms.map Movable.span)

/-- A member that the planner may move (R109): mode AUTO, drive not in FAULT. -/
def isMovable (s : State) (c : Coil) : Bool := (s.topo.coil[c]).mode == .auto && !((s.drive[c]).state == .fault)

/-- The movable coils of group `g`, in increasing coil number (R109). -/
def movables (s : State) (g : Group) : List Movable :=
  ((s.topo.group[g]).members.filter (isMovable s)).map (fun c => ⟨c, (s.topo.coil[c]).type, s.planner.table[c]⟩)

/-- F: the sum of the present currents of the fixed coils of group `g` (R109). -/
def fixedCurrent (s : State) (g : Group) : Nat :=
  currentSum s ((s.topo.group[g]).members.filter (fun c => !isMovable s c))

/-- The raw target (R110): round(I_C·(1000 + v_set)/1000). -/
def rawTarget (iC : Nat) (setpoint : Int) : Nat := (roundDiv ((iC : Int) * (1000 + setpoint)) 1000).toNat

/-- The target and the RANGE_LIMIT condition (R111): the raw target brought within L..H. -/
def rangeTarget (raw low high : Nat) : Nat × RangeLimit :=
  if raw < low then (low, .low) else if high < raw then (high, .high) else (raw, .clear)

/-- The share of a coil with the given minimum and span when `excess` is divided over `spans` (R113, R115). -/
def shareOf (minimum span : Nat) (excess : Int) (spans : Nat) : Int := minimum + roundDiv (excess * span) spans

/-- The tap nearest a share, the lower on a tie (R114), with its current: `best` is the tap and current found so far. -/
def nearestTapFrom (share : Int) : Nat → Nat × Nat → List Point → Nat × Nat
  | _, best, [] => best
  | t, best, p :: rest =>
    if ((p.cur : Int) - share).natAbs < ((best.2 : Int) - share).natAbs then nearestTapFrom share (t + 1) (t, p.cur) rest
    else nearestTapFrom share (t + 1) best rest

/-- The tap of a table nearest a share, and its current (R114). -/
def nearestTap (table : List Point) (share : Int) : Nat × Nat :=
  match table with
  | [] => (1, 0)
  | p :: rest => nearestTapFrom share 2 (1, p.cur) rest

/-- A coil's share and place in an allocation, before what is handed is decided. -/
structure Placement where
  coil : Coil
  share : Int
  pos : Nat
  cur : Nat
  deriving DecidableEq, Repr

/-- The placement of a tapped coil (R113, R114), R and the sums being those of all movable coils. -/
def placeTapped (r : Int) (ms : List Movable) (m : Movable) : Placement :=
  let share := shareOf m.min m.span (r - sumMin ms) (sumSpan ms)
  let tap := nearestTap m.table share
  ⟨m.coil, share, tap.1, tap.2⟩

/-- The shares of the plunger coils for R′ (R115): each but the last by its span, within its range; the last takes the
remainder, within its range. `left` is what the coils before have not taken. -/
def plungerShares (r' : Int) (all : List Movable) : Int → List Movable → List (Movable × Int)
  | _, [] => []
  | left, [m] => [(m, clampInt m.min m.max left)]
  | left, m :: rest =>
    let share := clampInt m.min m.max (shareOf m.min m.span (r' - sumMin all) (sumSpan all))
    (m, share) :: plungerShares r' all (left - share) rest

/-- The placement of a plunger coil at its share (R103, R116). -/
def placePlunger (m : Movable) (share : Int) : Placement :=
  let p := tablePosition m.table share.toNat
  ⟨m.coil, share, p, (tableCurrent m.table p).getD 0⟩

/-- The allocation of R over the movable coils (R113 to R116): the placements in increasing coil number, and the error. -/
def allocate (r : Int) (ms : List Movable) : List Placement × Int :=
  let tapped := ms.filter (fun m => m.type == .tapped)
  let plungers := ms.filter (fun m => m.type == .plunger)
  let taps := tapped.map (placeTapped r ms)
  let r' := r - sumInt (taps.map (fun p => Int.ofNat p.cur))
  let shares := plungerShares r' plungers r' plungers
  let cores := shares.map (fun x => placePlunger x.1 x.2)
  let placed := ms.filterMap (fun m => (taps ++ cores).find? (fun p => p.coil == m.coil))
  (placed, r' - sumInt (shares.map Prod.snd))

/-- What is handed for a placement (R116): a target when the chosen position differs from the present one by more than the stop
tolerance, else a withdrawal. A coil with no present position, which no AUTO coil outside FAULT is, gets a withdrawal. -/
def handedFor (s : State) (p : Placement) : Handed :=
  match (s.drive[p.coil]).position with
  | none => .withdrawal
  | some now => if stopTolerance s p.coil < distance now p.pos then .target else .withdrawal

/-- The plan record of a planning of group `g` that passes the gate of R109 (R109 to R116). The allocation of the last PLANNED
planning stays with the record until the next PLANNED one (R117, log entry 20). -/
def formPlan (s : State) (g : Group) : PlanRecord :=
  let ms := movables s g
  let f := fixedCurrent s g
  let kept := (s.planner.record[g]).lastPlanned
  let without := fun (o : PlanOutcome) =>
    ({ PlanRecord.reset with outcome := o, time := some s.time, fixed := some f, lastPlanned := kept } : PlanRecord)
  match (s.est[g]).value with
  | none => without .noValue
  | some v =>
    if ms.isEmpty then without .noAuto
    else
      let raw := rawTarget v.iC s.planner.setpoint[g]
      let low := f + sumMin ms
      let high := f + sumMax ms
      let t := rangeTarget raw low high
      let base : PlanRecord :=
        { outcome := .deadband, time := some s.time, raw := some raw, fixed := some f, low := some low, high := some high,
          target := some t.1, range := t.2, alloc := [], error := none,
          lastPlanned := kept }
      if distance t.1 (groupCurrent s g) ≤ s.settings.deadband then base
      else
        let a := allocate ((t.1 : Int) - f) ms
        let entries : List AllocEntry := a.1.map (fun p => ⟨p.coil, p.share.toNat, p.pos, p.cur, handedFor s p⟩)
        { base with outcome := .planned, alloc := entries, error := some a.2, lastPlanned := entries }

/-- The RANGE_LIMIT event of a planning (R109, R111), when the condition changes from `old`. The raw target and I_T stand in the
notice's 32-bit values as they are, also above 65535; R111 and R181 leave open whether such a value is carried as 65535 there (log
entry 44, DESIGN CHOICE). -/
def raiseRangeLimit (g : Group) (old : RangeLimit) (r : PlanRecord) (s : State) : State :=
  if r.range = old then s
  else
    raiseEvent .rangeLimit (some g)
      [val (if r.range = .clear then 0 else 1), value r.raw, value r.target, r.range.boundCode] s

/-- Hand a planning's result to the drives (R109, R112, R116): targets and withdrawals of a PLANNED record, and otherwise a
withdrawal for each movable coil. The drives are taken in increasing coil number; R116 orders none of them, and R184 allows either
order of the MOVE_DONE events of moves that end as they are handed (log entry 49, DESIGN CHOICE). -/
def handPlan (g : Group) (r : PlanRecord) (s : State) : State :=
  if r.outcome = .planned then
    forEach r.alloc
      (fun a s => match a.handed with
        | .target => newTarget a.coil ⟨a.pos, .auto⟩ s
        | .withdrawal => withdraw a.coil s) s
  else forEach (movables s g) (fun m s => withdraw m.coil s) s

/-- The gate of a planning (R109): the part in RUN, the group in use, neither held nor frozen. -/
def planGate (s : State) (g : Group) : Bool :=
  s.runState == .run && s.topo.inUse g && !(s.topo.group[g]).held && !frozen s g

/-- A planning of group `g` is asked for (R108): when its gate holds, the record is written whole, a change of the RANGE_LIMIT
condition is raised, and the drives are handed their targets or withdrawals. RANGE_LIMIT comes before what the drives raise, an
order R184 leaves open (log entry 49, DESIGN CHOICE). -/
def planGroup (g : Group) (s : State) : State :=
  if planGate s g then
    let r := formPlan s g
    let old := (s.planner.record[g]).range
    handPlan g r (raiseRangeLimit g old r (s.setPlan g r))
  else s

/-- A plan record goes out of use in a group change (R107): a set RANGE_LIMIT condition is cleared with an event. -/
def retirePlan (g : Group) (s : State) : State :=
  let old := (s.planner.record[g]).range
  let s := s.setPlan g PlanRecord.reset
  if old = .clear then s else raiseEvent .rangeLimit (some g) [val 0, none, none, none] s

end Sys2Proof.Machine
end

