-- ==== Sys2Proof/Machine/Estimator.lean ====
section
/-! DEFINITION. The network estimator (chapter 4) with the natural displacement of section 3.7: the cycle result, the derived
values, the fold, freezing, staleness and the adjustments from switching. Merge and split stand in GroupChange.lean. -/

namespace Sys2Proof.Machine

/-! ## The cycle result (R58 to R61) -/

/-- Re and Im of stage 2 (R59) for the differences ΔU and ΔI. -/
def admittance (dU dI : Phasor) : Int × Int :=
  (roundDiv (10000 * (dI.re * dU.re + dI.im * dU.im)) dU.normSq,
   roundDiv (10000 * (dI.im * dU.re - dI.re * dU.im)) dU.normSq)

/-- Stage 3 (R60): the quality flags of Re and Im + I_L. -/
def stageThree (re ic : Int) (q : Quality) : Quality :=
  { q with
    dampClamped := q.dampClamped || decide (re < 0)
    gSaturated := q.gSaturated || decide (65535 < re)
    icNonpos := q.icNonpos || decide (ic ≤ 0)
    icSaturated := q.icSaturated || decide (65535 < ic) }

/-- U_nat_cycle (R61). -/
def naturalOf (uA uB : Phasor) : Phasor := ⟨roundDiv (uA.re + uB.re) 2, roundDiv (uA.im + uB.im) 2⟩

/-- Stages 1 to 4 for the four window phasors (R58 to R61): the result of an accepted cycle, or none for a rejected one, and
the quality flags with the stages' own set. -/
def cycleResult (uMin coilCurrent : Nat) (uA iA uB iB : Phasor) (q : Quality) : Option CycleResult × Quality :=
  let dU := uA.sub uB
  let dI := iA.sub iB
  if dU.normSq < (2 * uMin) * (2 * uMin) then (none, { q with lowResponse := true })
  else
    let y := admittance dU dI
    let ic := y.2 + coilCurrent
    let q := stageThree y.1 ic q
    if 65535 < y.1 ∨ ic ≤ 0 ∨ 65535 < ic then (none, q)
    else (some ⟨⟨ic.toNat, y.1.toNat⟩, naturalOf uA uB⟩, q)

/-! ## Derived values (R62) -/

/-- v, the detuning of a value at a coil current (R62). -/
def detuning (v : Currents) (coilCurrent : Nat) : Int :=
  clampInt (-1000) 2000 (roundDiv (1000 * ((coilCurrent : Int) - v.iC)) v.iC)

/-- d, the damping of a value (R62). -/
def damping (v : Currents) : Nat := min 1000 (roundDiv (1000 * (v.iG : Int)) v.iC).toNat

/-- I_res of a value at a coil current (R62). -/
def residual (v : Currents) (coilCurrent : Nat) : Nat :=
  min 65535 (roundSqrt (v.iG * v.iG + distance v.iC coilCurrent * distance v.iC coilCurrent))

/-- v of group `g` as it stands, absent when the estimate holds no value (R62, R63). -/
def groupDetuning (s : State) (g : Group) : Option Int := (s.est[g]).value.map (fun v => detuning v (groupCurrent s g))

/-! ## The fold (R66 to R73) -/

/-- Two currents agree (R66). -/
def agree (tau a b : Nat) : Bool := decide (distance a b ≤ tau)

/-- The mean of two pairs (R66). -/
def meanOf (a b : Currents) : Currents :=
  ⟨(roundDiv ((a.iC : Int) + b.iC) 2).toNat, (roundDiv ((a.iG : Int) + b.iG) 2).toNat⟩

/-- One current blended toward another with shift k (R66). -/
def blendOne (k a b : Nat) : Nat := ((a : Int) + roundDiv ((b : Int) - a) (2 ^ k)).toNat

/-- A value blended toward a result with shift k (R66, R70). -/
def blend (k : Nat) (v r : Currents) : Currents := ⟨blendOne k v.iC r.iC, blendOne k v.iG r.iG⟩

/-- The kind of a fold's outcome for the feeder register (R73). -/
inductive FoldKind where
  | confirming | early | ordinary
  deriving DecidableEq, Repr

/-- What a fold yields: the estimate, the kind, the record flags, the ESTIMATE reason, and whether a follow-up is asked for and
UNSTABLE is raised. -/
structure Fold where
  est : Estimate
  kind : FoldKind := .ordinary
  outlier : Bool := false
  step : Bool := false
  confirm : Bool := false
  reason : Option EstReason := none
  followUp : Bool := false
  unstable : Bool := false
  deriving DecidableEq, Repr

/-- A result replaces a candidate it does not agree with (R67): the count rises to at most 4; below 4 a follow-up is asked for,
and UNSTABLE is raised when it reaches 4 from 3. -/
def replaceCandidate (r : Currents) (e : Estimate) (f : Fold) : Fold :=
  { f with
    est := { e with candidate := some r, disagreement := min 4 (e.disagreement + 1) }
    followUp := decide (e.disagreement + 1 < 4)
    unstable := decide (e.disagreement = 3) }

/-- The estimate with a confirmed value: VALID, no candidate, count 0. -/
def Estimate.settleAt (v : Currents) (e : Estimate) : Estimate :=
  { e with state := .valid, value := some v, candidate := none, disagreement := 0 }

/-- The fold of an accepted result into an estimate (R68 to R72), with τ and k in force. A FROZEN estimate receives no result
(R76) and is left as it is. -/
def foldResult (tau k : Nat) (r : Currents) (e : Estimate) : Fold :=
  match e.state, e.value, e.candidate with
  | .empty, _, _ => { est := { e with state := .settling, candidate := some r, disagreement := 0 }, followUp := true }
  | .settling, _, some c =>
    if agree tau r.iC c.iC then { est := e.settleAt (meanOf c r), reason := some .settled }
    else replaceCandidate r e { est := e }
  | .valid, some v, none =>
    if agree tau r.iC v.iC then { est := { e with value := some (blend k v r) } }
    else { est := { e with candidate := some r, disagreement := 0 }, outlier := true, followUp := true }
  | .valid, some v, some c =>
    if agree tau r.iC v.iC then { est := e.settleAt (blend k v r), outlier := true }
    else if agree tau r.iC c.iC then { est := e.settleAt (meanOf c r), step := true, reason := some .step }
    else replaceCandidate r e { est := e, outlier := true }
  | .provisional, some v, _ =>
    if e.early then { est := { e with value := some (blend k v r) }, kind := .early }
    else { est := e.settleAt r, kind := .confirming, confirm := true, reason := some .confirmed }
  | _, _, _ => { est := e }

/-- What every accepted cycle writes besides the fold (R73). -/
def Estimate.accepted (finish coilCurrent : Nat) (natural : Phasor) (e : Estimate) : Estimate :=
  { e with
    lastAccepted := some finish
    age := some 0
    stale := false
    lastCoilCurrent := some coilCurrent
    jumpReference := some natural
    armed := true }

/-! ## Events and hand-overs -/

/-- The estimate's I_C, when it holds a value. -/
def Estimate.iC (e : Estimate) : Option Nat := e.value.map Currents.iC

/-- The estimate's I_G, when it holds a value. -/
def Estimate.iG (e : Estimate) : Option Nat := e.value.map Currents.iG

/-- The event ESTIMATE for group `g` (R74). -/
def raiseEstimate (g : Group) (reason : EstReason) (s : State) : State :=
  raiseEvent .estimate (some g)
    [val (s.est[g]).state.code, value (s.est[g]).iC, value (s.est[g]).iG, val reason.code] s

/-- An age in seconds (R77), by the rounding of R1. -/
def ageSeconds (ms : Nat) : Nat := (roundDiv (ms : Int) 1000).toNat

/-- The event STALE with the value 1 and the age (R77). -/
def raiseStale (g : Group) (s : State) : State :=
  raiseEvent .stale (some g) [val 1, value ((s.est[g]).age.map ageSeconds)] s

/-- The event STALE with the value 0 (R77), which carries no age. -/
def raiseStaleCleared (g : Group) (s : State) : State := raiseEvent .stale (some g) [val 0, none] s

/-- The state, I_C or I_G of an estimate changed (R57). -/
def handedOver (before after : Estimate) : Bool := !(before.state == after.state && before.value == after.value)

/-- Hand group `g`'s estimate to the planner when its state, I_C or I_G changed (R57, R108). -/
def handEstimate (g : Group) (before : Estimate) (s : State) : State :=
  if handedOver before s.est[g] then planGroup g s else s

/-! ## Freezing (R76) and staleness (R77) -/

/-- An estimate becomes FROZEN (R76); its quiet history is emptied (R54). -/
def Estimate.freeze (e : Estimate) : Estimate :=
  if e.state = .frozen then e else { e with state := .frozen, returnState := some e.state, quiet := [] }

/-- A FROZEN estimate returns (R76). -/
def Estimate.unfreeze (e : Estimate) : Estimate :=
  if e.state = .frozen then { e with state := e.returnState.getD .empty, returnState := none } else e

/-- The estimate's state, a FROZEN one being given by its return state (R78). -/
def Estimate.stateBehind (e : Estimate) : EstState := if e.state = .frozen then e.returnState.getD .empty else e.state

/-- Group `g` is unfrozen: its estimate returns and is handed to the planner (R76). -/
def unfreezeGroup (g : Group) (s : State) : State := planGroup g (s.setEst g (s.est[g]).unfreeze)

/-- The stale flag of an estimate is due (R77): it holds a value and its age exceeds the maximum age in force. -/
def staleDue (maxAge : Nat) (e : Estimate) : Bool :=
  !e.stale && e.value.isSome && (match e.age with
    | none => false
    | some a => decide (maxAge * 1000 < a))

/-- Set group `g`'s stale flag when it is due (R77). -/
def testStale (g : Group) (s : State) : State :=
  if s.topo.inUse g ∧ staleDue s.settings.maxAge s.est[g] = true then raiseStale g (s.setEst g { s.est[g] with stale := true })
  else s

/-! ## The pre-tuning adjustment (R78) -/

/-- I_C moved by a contribution, with its floor and saturation (R78). -/
def adjustCurrent (add : Bool) (contribution iC : Nat) : Nat :=
  if add then min 65535 (iC + contribution) else max 1 (iC - contribution)

/-- The record as an adjustment leaves it (R78); `lock` is the group's measurement lock. -/
def Estimate.adjusted (add : Bool) (contribution : Nat) (lock : Bool) (e : Estimate) : Estimate :=
  match e.stateBehind, e.value with
  | .valid, some v | .provisional, some v =>
    let e := { e with
      value := some { v with iC := adjustCurrent add contribution v.iC }, candidate := none, disagreement := 0 }
    if e.state = .frozen then { e with returnState := some .provisional }
    else { e with state := .provisional, early := lock }
  | _, _ => e

/-- The estimator takes an adjustment for group `g` (R78): the record, ESTIMATE with PRE_TUNED when the value changed, and the
hand-over to the planner. The answer to the register, state and I_C before, is read before this. -/
def adjustEstimate (g : Group) (add : Bool) (contribution : Nat) (s : State) : State :=
  let before := s.est[g]
  let s := s.setEst g (before.adjusted add contribution (s.seq.machine[g]).lock)
  let s := if before.value = (s.est[g]).value then s else raiseEstimate g .preTuned s
  handEstimate g before s

/-! ## Natural displacement (R54, R55) -/

/-- U_nat of a quiet history (R54): the window phasor of its newest W phasors, once it holds W. -/
def naturalDisplacement (w : Nat) (quiet : List Phasor) : Option Phasor :=
  if quiet.length < w then none else some (windowPhasor (quiet.drop (quiet.length - w)))

/-- Append to a quiet history, dropping the oldest of 32 (R54). -/
def appendQuiet (p : Phasor) (quiet : List Phasor) : List Phasor :=
  (if quiet.length < Config.quietCapacity then quiet else quiet.drop 1) ++ [p]

/-- An injector of group `g` is on. -/
def injectorActive (s : State) (g : Group) : Bool :=
  four.any (fun c => (s.seq.injector[c]).enable && s.topo.groupOfCoil c == g)

/-- The boundary is quiet for an estimate (R54): no injector of the group on, and T_settle boundaries since one was switched off. -/
def quietBoundary (tSettle : Nat) (active : Bool) (sinceOff : Option Nat) : Bool :=
  !active && (match sinceOff with
    | none => true
    | some n => decide (tSettle ≤ n))

/-- Jump detection fires (R55): U_nat exists, detection is armed, and |U_nat − reference| exceeds the threshold. -/
def jumpDetected (w threshold : Nat) (e : Estimate) : Bool :=
  e.armed && (match naturalDisplacement w e.quiet, e.jumpReference with
    | some u, some r => decide (threshold < (u.sub r).magnitude)
    | _, _ => false)

/-- The estimator's work at a cycle boundary for group `g` (R54, R55): the quiet history and jump detection, from the published
cycle phasor of U0 of the group's lowest section. -/
def quietWork (g : Group) (s : State) : State :=
  let e := s.est[g]
  let since := e.sinceOff.map (· + 1)
  if quietBoundary s.settings.tSettle (injectorActive s g) since then
    let e := { e with sinceOff := since, quiet := appendQuiet (s.acq.phasor[g.val]'(by omega)) e.quiet }
    if jumpDetected s.settings.window s.settings.jump e && !(s.topo.group[g]).held && !frozen s g then
      switchTrigger g (s.setEst g { e with armed := false })
    else s.setEst g e
  else s.setEst g { e with sinceOff := since, quiet := [] }

end Sys2Proof.Machine
end

