-- ==== Sys2Proof/Machine/FeederRegister.lean ====
section
/-! DEFINITION. The feeder register (chapter 5): transitions, transition lists, contribution updates and split sums. -/

namespace Sys2Proof.Machine

/-- A transition between IN and OUT (R93). -/
def switches (old new : FeederState) : Bool :=
  match old, new with
  | .into, .out => true
  | .out, .into => true
  | _, _ => false

/-- The adjustment a transition is entered with (R92, R93): PRE_TUNED by a known contribution, LEARNING for an unknown one, and
none for a transition from or to UNKNOWN. -/
def adjustmentOf (old new : FeederState) (contribution : Option Nat) : Adjustment :=
  if switches old new then
    match contribution with
    | some c => .preTuned c
    | none => .learning
  else .nothing

/-- Enter a transition in a list (R92): a full list is marked overflowed and the entry is lost, as is every later one while the
mark stands. -/
def TransitionList.enter (e : ListEntry) (l : TransitionList) : TransitionList :=
  if l.overflow then l
  else if l.entries.length < Config.listCapacity then { l with entries := l.entries ++ [e] }
  else { l with overflow := true }

/-- Feeder `n`, defined, takes the state `new` (R91); a state it already has makes no transition. -/
def takeTransition (n : FeederNo) (new : FeederState) (s : State) : State :=
  let f := s.reg.feeder[n]
  if f.state = new then s
  else
    let g := s.topo.groupOf[f.sect]
    let before := s.est[g]
    let adjustment := adjustmentOf f.state new f.contribution
    let entry : ListEntry :=
      { feeder := n, sect := f.sect, old := f.state, new := new, time := s.time, estBefore := before.stateBehind,
        iCBefore := before.iC, adjustment := adjustment, order := s.reg.taken }
    let s := s.setFeeder n { f with state := new }
    let s := match adjustment with
      | .preTuned c => adjustEstimate g (decide (new = FeederState.into)) c s
      | .learning => adjustEstimate g false 0 s
      | .nothing => s
    let s := s.setList g ((s.reg.list[g]).enter entry)
    let s := { s with reg := { s.reg with taken := s.reg.taken + 1 } }
    switchTrigger g s

/-- The indicated state of a feeder contact (R90): active is IN and inactive is OUT. -/
def indicatedState (active : Bool) : FeederState := if active then .into else .out

/-- The contact input unit delivers an indication for feeder `n` (R90); a delivery for an undefined feeder is ignored. -/
def deliverFeeder (n : FeederNo) (active : Bool) (s : State) : State :=
  if (s.reg.feeder[n]).defined then takeTransition n (indicatedState active) s else s

/-- The register takes the debounced indication of feeder `n`'s source afresh (R87, R88, R90). -/
def takeIndication (n : FeederNo) (s : State) : State :=
  match (s.reg.feeder[n]).source with
  | none => s
  | some i =>
    match (s.contacts.input[i]).active with
    | none => s
    | some a => deliverFeeder n a s

/-- The one entry a contribution may be learned from (conditions 1, 2 and 4 of R96). -/
def TransitionList.teaches (l : TransitionList) : Option ListEntry :=
  match l.entries with
  | [e] => if !l.overflow && switches e.old e.new && e.estBefore == .valid then some e else none
  | _ => none

/-- The contribution after an update by the measured change Δ (R97). -/
def learned (contribution : Option Nat) (delta : Nat) : Nat :=
  match contribution with
  | none => delta
  | some c => ((c : Int) + roundDiv ((delta : Int) - c) 2).toNat

/-- The update count after an update (R97). -/
def learnedCount (contribution : Option Nat) (updates : Nat) : Nat :=
  match contribution with
  | none => 1
  | some _ => min 15 (updates + 1)

/-- Update a contribution from a confirming cycle of group `g` when R96 allows it (R97); `mark` is the change mark handed over. -/
def updateContribution (g : Group) (iC : Nat) (mark : Bool) (s : State) : State :=
  match (s.reg.list[g]).teaches with
  | none => s
  | some e =>
    let f := s.reg.feeder[e.feeder]
    match e.iCBefore with
    | none => s
    | some before =>
      if !mark && f.defined && f.state == e.new && s.topo.groupOf[f.sect] == g then
        let delta := distance before iC
        let new := learned f.contribution delta
        let count := learnedCount f.contribution f.updates
        let s := s.setFeeder e.feeder { f with contribution := some new, updates := count }
        raiseEvent .contribUpdated (some e.feeder) [val new, value f.contribution, val delta, val count] s
      else s

/-- The register takes a fold's outcome for group `g` (R95). -/
def takeOutcome (g : Group) (kind : FoldKind) (iC : Nat) (mark : Bool) (s : State) : State :=
  match kind with
  | .early => s
  | .ordinary => s.setList g ⟨[], false⟩
  | .confirming => (updateContribution g iC mark s).setList g ⟨[], false⟩

/-- The contribution sum of a set of sections, absent when an IN feeder's contribution is unknown (R98). -/
def splitSum (s : State) (side : List Section) : Option Nat :=
  s.reg.feeder.toList.foldl
    (fun acc f =>
      if f.defined && f.state == .into && side.contains f.sect then
        match acc, f.contribution with
        | some a, some c => some (a + c)
        | _, _ => none
      else acc) (some 0)

/-- Insert an entry into a list kept by the order the transitions were taken in. -/
def insertByOrder (e : ListEntry) : List ListEntry → List ListEntry
  | [] => [e]
  | x :: rest => if e.order < x.order then e :: x :: rest else x :: insertByOrder e rest

/-- The list of a merged group (R94): both lists in the order taken, the oldest 8 kept, overflowed when they number more or
either was. -/
def mergeLists (a b : TransitionList) : TransitionList :=
  let all := b.entries.foldl (fun acc e => insertByOrder e acc) a.entries
  ⟨all.take Config.listCapacity, a.overflow || b.overflow || decide (Config.listCapacity < all.length)⟩

/-- The list of one side of a split (R94). -/
def sideList (l : TransitionList) (side : List Section) : TransitionList :=
  { l with entries := l.entries.filter (fun e => side.contains e.sect) }

end Sys2Proof.Machine
end

