-- ==== Sys2Proof/Machine/Supervisor.lean ====
section
/-! DEFINITION. The earth-fault supervisor (chapter 8): start and end tests, crossing reports and false starts, the opening and
the closing of an episode, post-fault holds. -/

namespace Sys2Proof.Machine

/-! ## The conditions of a group handed on -/

/-- The post-fault hold of group `g` ends (R151): the group is unfrozen and its flag is set. -/
def endHold (g : Group) (s : State) : State := setFlag g (unfreezeGroup g (s.setHold g none))

/-- The post-fault hold of group `g` starts with T_hold in force (R151); with T_hold 0 it expires as it starts. -/
def startHold (g : Group) (s : State) : State :=
  if s.settings.tHold = 0 then endHold g s else s.setHold g (secondsTimer s.settings.tHold)

/-- The episode condition of group `g` is set: the drives of its members stop running moves as INTERRUPTED (R134).
They are taken in increasing coil number, which shows in the order of MOVE_DONE with a coast time of 0; R134 and R146 order no
drives (log entry 49, DESIGN CHOICE). -/
def interruptDrives (g : Group) (s : State) : State :=
  forEach (s.topo.group[g]).members (fun c => stopIfRunning c .interrupted) s

/-! ## Crossing reports (R50, R147, R148) -/

/-- A decision is pending for group `g` (R50): some decision's marks lie in it. -/
def decisionPending (s : State) (g : Group) : Bool :=
  s.seq.decisions.any (fun d => d.marks.any (fun q => s.topo.groupOf[q] == g))

/-- Section `q` carries a pending crossing mark. -/
def marked (s : State) (q : Section) : Bool := s.seq.decisions.any (fun d => d.marks.contains q)

/-- A false start (R37, R50): the effective level of the recorded coil's injector falls by one, INJECTOR is raised with the
reason 2, and the flag of the group is set. -/
def falseStart (c : Coil) (g : Group) (s : State) : State :=
  let level := (s.seq.injector[c]).effective
  let s := setEffective c (if level ≤ 1 then 1 else level - 1) s
  setFlag g (raiseInjector c 2 s)

/-- The mark of section `q` is cleared as failed (R148); a decision that keeps no mark was a false start.
Several decisions that end so are taken oldest first, an order the spec leaves open (log entry 49, DESIGN CHOICE). -/
def failMark (q : Section) (s : State) : State :=
  let hit := s.seq.decisions.filter (fun d => d.marks.contains q)
  let ended := hit.filter (fun d => d.marks.all (· == q))
  let kept := s.seq.decisions.map (fun d => { d with marks := d.marks.filter (fun r => !(r == q)) })
  let s := s.setDecisions (kept.filter (fun d => !d.marks.isEmpty))
  forEach ended (fun d => falseStart d.coil s.topo.groupOf[q]) s

/-- The decisions that hold a marked section in a set are settled as genuine (R148). -/
def settleGenuine (set : List Section) (s : State) : State :=
  s.setDecisions (s.seq.decisions.filter (fun d => !d.marks.any set.contains))

/-- A crossing report for group `g` (R147): the cycle is aborted with ABORTED_OVERVOLTAGE and the decision is noted with the
coil whose injector was on and the crossing sections. -/
def crossingReport (g : Group) (c : Coil) (crossing : List Section) (s : State) : State :=
  let s := abortCycle g .abortedOvervoltage s
  s.setDecisions (s.seq.decisions ++ [⟨c, crossing⟩])

/-! ## The boundary tests (R144, R147, R149) -/

/-- The magnitude of the published U0 of section `q` (R144). -/
def u0Magnitude (s : State) (q : Section) : Nat := (s.acq.phasor[q.val]'(by omega)).magnitude

/-- The start test of a section outside every open episode (R144). -/
def startTest (q : Section) (s : State) : State :=
  let w := s.sup.watch[q]
  let m := u0Magnitude s q
  if s.settings.uStart ≤ m then
    match w.start with
    | none => s.setWatch q { w with start := some ⟨s.time, m, s.settings.tStart⟩ }
    | some d => s.setWatch q { w with start := some { d with peak := max d.peak m } }
  else
    let s := s.setWatch q { w with start := none }
    if marked s q then failMark q s else s

/-- A magnitude above U_end of a section raises the peak of the open episode it belongs to, when it exceeds it (R149). Open
episodes share no section, and their numbers may meet once the counter has wrapped (R145): the section tells them apart. -/
def raisePeak (q : Section) (m : Nat) (l : List EpisodeRecord) : List EpisodeRecord :=
  l.map (fun e =>
    if e.isOpen && e.sections.contains q && decide (e.peak < m) then { e with peak := m, peakSection := q } else e)

/-- The end test of a section of an open episode (R149). -/
def endTest (q : Section) (s : State) : State :=
  let w := s.sup.watch[q]
  let m := u0Magnitude s q
  if m ≤ s.settings.uEnd then
    if w.endDwell.isNone && !w.quiet then s.setWatch q { w with endDwell := some s.settings.tEnd } else s
  else
    (s.setWatch q { w with endDwell := none, quiet := false }).setLog (raisePeak q m s.sup.log)

/-- The tests of one section at a boundary (R144, R149). A section of an open episode is not tested for a start, and its start
dwell is stopped. -/
def sectionTest (q : Section) (s : State) : State :=
  match openEpisode s q with
  | some _ => endTest q (s.setWatch q { s.sup.watch[q] with start := none })
  | none => startTest q s

/-- The crossing test of group `g` (R147): a cycle in flight, no section in an open episode, and some section at or above
U_start. -/
def crossingTest (g : Group) (s : State) : State :=
  match (s.seq.machine[g]).capture with
  | none => s
  | some k =>
    let crossing := (s.topo.sections g).filter (fun q => decide (s.settings.uStart ≤ u0Magnitude s q))
    if (s.seq.machine[g]).state.inFlight && !episodeCondition s g && !crossing.isEmpty then
      crossingReport g k.lead crossing s
    else s

/-- The supervisor's work at a cycle boundary (R144, R147, R149), from the entry into SETUP on (R158): the sections, then the
groups' crossing tests, each in increasing number. The spec orders none of them (log entry 42, DESIGN CHOICE). -/
def supervisorWork (s : State) : State :=
  forEach s.topo.groups crossingTest (forEach four sectionTest s)

/-! ## Opening (R145, R146, R152, R155) -/

/-- Write a new record into the fault log (R155): a full log loses its oldest closed record. -/
def dropOldestClosed : List EpisodeRecord → List EpisodeRecord
  | [] => []
  | e :: rest => if e.isOpen then e :: dropOldestClosed rest else rest

/-- The log with a record appended (R155). -/
def appendEpisode (e : EpisodeRecord) (l : List EpisodeRecord) : List EpisodeRecord :=
  (if l.length < Config.logCapacity then l else dropOldestClosed l) ++ [e]

/-- The present current of a coil for an episode's snapshot (R146): absent for an ABSENT or PARKED coil. -/
def snapshotCurrent (s : State) (c : Coil) : Option Nat :=
  if (s.topo.coil[c]).mode.member then presentCurrent s c else none

/-- The record of an episode that opens on section `q` (R145, R146), `d` being its completed start dwell. -/
def openingRecord (s : State) (q : Section) (d : StartDwell) : EpisodeRecord :=
  let g := s.topo.groupOf[q]
  { number := s.sup.next
    sections := (s.topo.sections g).filter (fun r => (openEpisode s r).isNone)
    start := d.time
    endTime := none
    peak := d.peak
    peakSection := q
    outcome := .opened
    restrike := (s.sup.hold[g]).isSome
    coils := #v[snapshotCurrent s 0, snapshotCurrent s 1, snapshotCurrent s 2, snapshotCurrent s 3]
    iC := (s.est[g]).iC
    detuning := groupDetuning s g
    persistence := secondsTimer s.settings.tMax
    tMax := s.settings.tMax }

/-- A start dwell `d` of section `q` completes and an episode opens (R145, R146), in the order of R146. Within its
step 4 the cycle is aborted before the drives are interrupted, an order the spec leaves open (log entry 49, DESIGN CHOICE). -/
def openEpisodeAt (q : Section) (d : StartDwell) (s : State) : State :=
  let g := s.topo.groupOf[q]
  let e := openingRecord s q d
  let s := forEach e.sections (fun r s => s.setWatch r ⟨none, none, false⟩) s
  let s := { s with sup := { s.sup with
    log := appendEpisode e s.sup.log, next := if s.sup.next = 65535 then 1 else s.sup.next + 1 } }
  let s := s.setHold g none
  let s := abortCycle g .abortedFault s
  let s := interruptDrives g s
  let s := s.setEst g (s.est[g]).freeze
  let s := settleGenuine e.sections s
  raiseEvent .episodeStart (some e.number) [val (sectionMask e.sections), val q, val (bit e.restrike), val e.peak] s

/-! ## Closing (R150) -/

/-- Every section of a set carries its quiet mark. -/
def allQuiet (s : State) (qs : List Section) : Bool := qs.all (fun q => (s.sup.watch[q]).quiet)

/-- The duration of an episode in seconds, rounded (R150). -/
def durationSeconds (start finish : Nat) : Int := roundDiv ((finish : Int) - start) 1000

/-- An open episode closes as CLEARED (R150). It is the open record of its sections, which no other open episode shares. The
post-fault holds of the groups it frees start in increasing group number, an order the spec leaves open; it shows in the events
when T_hold is 0 (log entry 46, DESIGN CHOICE). -/
def closeEpisode (e : EpisodeRecord) (s : State) : State :=
  let s := s.setLog (s.sup.log.map (fun r =>
    if r.isOpen && r.sections == e.sections then { r with outcome := .cleared, endTime := some s.time, persistence := none } else r))
  let s := forEach e.sections (fun q s => s.setWatch q { s.sup.watch[q] with endDwell := none, quiet := false }) s
  let freed := s.topo.groups.filter (fun g => (s.topo.sections g).any e.sections.contains && !episodeCondition s g)
  let s := forEach freed startHold s
  raiseEvent .episodeEnd (some e.number)
    [val EpisodeOutcome.cleared.code, some (durationSeconds e.start s.time), val e.peak, val e.peakSection] s

/-- An end dwell of section `q` expires (R149): its quiet mark is set, and the episode closes when that was the last (R150). -/
def endDwellDone (q : Section) (s : State) : State :=
  let s := s.setWatch q { s.sup.watch[q] with endDwell := none, quiet := true }
  match openEpisode s q with
  | none => s
  | some e => if allQuiet s e.sections then closeEpisode e s else s

/-- The persistence timer of the open episode that section `q` belongs to expires (R153). -/
def persist (q : Section) (s : State) : State :=
  match openEpisode s q with
  | none => s
  | some e =>
    if e.persistence.isNone then s
    else
      let s := s.setLog (s.sup.log.map (fun r =>
        if r.isOpen && r.sections == e.sections then { r with outcome := .persistent, persistence := none } else r))
      raiseEvent .episodePersistent (some e.number)
        [val (sectionMask e.sections), val e.peak, val e.peakSection, val e.tMax] s

end Sys2Proof.Machine
end

