-- ==== Sys2Proof/Machine/Feedback.lean ====
section
/-! DEFINITION. Position reports and drive faults (R120, R128 to R130, R138). -/

namespace Sys2Proof.Machine

/-! ## Faults (R138) -/

/-- Coil `c`'s drive enters FAULT (steps 1 to 5 of R138 but for the planning of the group, which `enterFault` asks for). -/
def faultDrive (c : Coil) (reason : FaultReason) (s : State) : State :=
  let d := s.drive[c]
  let s := s.setDrive c
    { d with
      state := .fault
      raiseOut := false
      lowerOut := false
      travel := none
      step := none
      delay := none
      coast := none
      pending := none
      running := none
      stopReason := none
      phase := none
      stepStart := none
      best := none
      interval := if d.state.moving then intervalTimer s c else d.interval
      last := some ⟨.fault, some reason, d.position, d.running.map Target.pos, d.running.map Target.origin, s.time⟩ }
  let s := raiseEvent .driveFault (some c)
    [val reason.code, value d.position, value (d.running.map Target.pos), val d.state.code] s
  if d.state.moving then moveEndTrigger c s else s

/-- Coil `c`'s drive enters FAULT and the planner plans its group (R138, R108). -/
def enterFault (c : Coil) (reason : FaultReason) (s : State) : State :=
  planGroup (s.topo.groupOfCoil c) (faultDrive c reason s)

/-- The feedback of coil `c` is absent while it is supervised (R120): MANUAL or AUTO, and not already in FAULT. -/
def feedbackLost (s : State) (c : Coil) : Bool :=
  (s.topo.coil[c]).mode.member && !(s.drive[c]).feedback && !((s.drive[c]).state == .fault)

/-! ## Reports (R120) -/

/-- What a position input reports for a coil type (R120): the position of a valid report. -/
def reportOf (type : CoilType) (code : Nat) (valid : Bool) : Option Nat :=
  match type with
  | .plunger => if valid && decide (code ≤ 4095) then some code else none
  | .tapped => if valid && decide (1 ≤ code) && decide (code ≤ 32) then some code else none

/-- A report on a drive's position and feedback (R120): an invalid one leaves the position at its last valid value. -/
def Drive.report (r : Option Nat) (d : Drive) : Drive :=
  match r with
  | some p => { d with position := some p, feedback := true }
  | none => { d with feedback := false }

/-- Coil `c`'s drive takes its position input as it stands as one report (R120). -/
def takeReport (c : Coil) (s : State) : State :=
  let d := s.drive[c]
  s.setDrive c (d.report (reportOf (s.topo.coil[c]).type d.inputCode d.inputValid))

/-- A capture with MOVED set when a member's reported position is away from its recorded one by more than its tolerance (R53). -/
def Capture.observe (c : Coil) (tolerance : Nat) (p : Nat) (k : Capture) : Capture :=
  match k.positions[c] with
  | none => k
  | some p0 =>
    if k.members.contains c && decide (tolerance < distance p p0) then { k with quality := { k.quality with moved := true } }
    else k

/-- The sequencer takes a valid position report of coil `c` (R53). -/
def observeReport (c : Coil) (p : Nat) (s : State) : State :=
  forEach four (fun g s => s.setMachine g
    { s.seq.machine[g] with capture := (s.seq.machine[g]).capture.map (Capture.observe c (stopTolerance s c) p) }) s

/-! ## A running drive takes a valid report -/

/-- The best position after a report (R128). -/
def bestAfter (state : DriveState) (best : Option Nat) (p : Nat) : Option Nat :=
  match state with
  | .runningUp => some (max (best.getD p) p)
  | .runningDown => some (min (best.getD p) p)
  | .idle => best | .pending => best | .stopping => best | .fault => best

/-- The direction supervision of a plunger (R129): more than 8 counts behind the best position. -/
def wrongWay (state : DriveState) (best : Option Nat) (p : Nat) : Bool :=
  match state, best with
  | .runningUp, some b => decide (p + 8 < b)
  | .runningDown, some b => decide (b + 8 < p)
  | _, _ => false

/-- A running plunger takes a valid report at `p` (R128, R129). -/
def plungerReport (c : Coil) (p : Nat) (s : State) : State :=
  let d := s.drive[c]
  let s := s.setDrive c { d with best := bestAfter d.state d.best p }
  if stopReached s.drive[c] (stopTolerance s c) then enterStopping c .reached s
  else if wrongWay d.state d.best p then enterFault c .direction s
  else s

/-- A tap lies in the commanded direction from another (R130). -/
def commanded (state : DriveState) (first next : Nat) : Bool :=
  match state with
  | .runningUp => decide (first < next)
  | .runningDown => decide (next < first)
  | .idle => false | .pending => false | .stopping => false | .fault => false

/-- A running tapped coil in STEP takes a valid report of tap `p` (R130): the first tap other than the one at the start of the
step completes it, or is a fault of direction. -/
def stepReport (c : Coil) (p : Nat) (s : State) : State :=
  let d := s.drive[c]
  match d.stepStart with
  | none => s
  | some p0 =>
    if p = p0 then s
    else if commanded d.state p0 p then
      if stopReached d (stopTolerance s c) then enterStopping c .reached s else beginDelay c s
    else enterFault c .direction s

/-- A running tapped coil in DELAY takes a valid report of tap `p`, the tap before it being `before` (R130). -/
def delayReport (c : Coil) (before : Option Nat) (p : Nat) (s : State) : State :=
  let d := s.drive[c]
  match before with
  | none => s
  | some p0 =>
    if p = p0 then s
    else if commanded d.state p0 p then testStop c s
    else enterFault c .direction s

/-- A drive that is RUNNING takes a valid report (R128 to R130); in any other state the report only moves the position. -/
def runningReport (c : Coil) (before : Option Nat) (p : Nat) (s : State) : State :=
  if (s.drive[c]).state.running then
    match (s.topo.coil[c]).type with
    | .plunger => plungerReport c p s
    | .tapped =>
      match (s.drive[c]).phase with
      | some .step => stepReport c p s
      | some .delay => delayReport c before p s
      | none => s
  else s

/-- The coil's position input changes to a code and a validity (R120). -/
def positionChange (c : Coil) (code : Nat) (valid : Bool) (s : State) : State :=
  let d := s.drive[c]
  if d.inputCode = code ∧ d.inputValid = valid then s
  else
    let s := takeReport c (s.setDrive c { d with inputCode := code, inputValid := valid })
    match reportOf (s.topo.coil[c]).type code valid with
    | none => if feedbackLost s c then enterFault c .feedback s else s
    | some p => runningReport c d.position p (observeReport c p s)

end Sys2Proof.Machine
end

