-- ==== Sys2Proof/Machine/Sequencer.lean ====
section
/-! DEFINITION. The injection cycle (chapter 3): the start conditions, the start of a cycle, its progress at cycle boundaries and
its end, with the estimator's and the register's part in it (R42, R57). -/

namespace Sys2Proof.Machine

/-! ## The start conditions (R40) -/

/-- The start conditions of R40 that fail, in the order of the MEASURE reply's bits (R181): part not in RUN, held, frozen,
overvoltage decision pending, drive moving, no lead. -/
def failingConditions (s : State) (g : Group) : List Bool :=
  [!(s.runState == .run), (s.topo.group[g]).held, frozen s g, decisionPending s g,
   (s.topo.group[g]).members.any (fun c => (s.drive[c]).state.moving), (s.topo.group[g]).lead.isNone]

/-- Group `g`'s machine leaves WAITING now (R40). -/
def cycleReady (s : State) (g : Group) : Bool :=
  (s.seq.machine[g]).state == .waiting && (s.seq.machine[g]).flag && s.topo.inUse g && !(failingConditions s g).any id

/-- The position of a coil as a cycle's start records it: for a member coil only (R40). -/
def recordedPosition (s : State) (g : Group) (c : Coil) : Option Nat :=
  if (s.topo.group[g]).members.contains c then (s.drive[c]).position else none

/-- The capture of a cycle that starts now with lead coil `c` (steps 2 to 4 of R40). -/
def openCapture (s : State) (g : Group) (c : Coil) : Capture where
  start := s.time
  group := g
  sections := s.topo.sections g
  lead := c
  leadSection := (s.topo.coil[c]).sect
  level := (s.seq.injector[c]).effective
  settle := s.settings.tSettle
  window := s.settings.window
  coilCurrent := groupCurrent s g
  positions := #v[recordedPosition s g 0, recordedPosition s g 1, recordedPosition s g 2, recordedPosition s g 3]
  members := (s.topo.group[g]).members
  count := 0
  uWindow := []
  iWindow := []
  uSaturated := false
  iSaturated := false
  uA := none
  iA := none
  uB := none
  iB := none
  quality := {}

/-- A machine leaves WAITING for SETTLE_A (R40). -/
def startCycle (g : Group) (s : State) : State :=
  match (s.topo.group[g]).lead with
  | none => s
  | some c =>
    let k := openCapture s g c
    let s := s.setMachine g { s.seq.machine[g] with state := .settleA, flag := false, lock := true, capture := some k }
    injectorOn c k.level s

/-! ## The end of a cycle (R42, R57) -/

/-- The flags of a record after a fold (R57, R70 to R72). -/
def Fold.quality (f : Fold) (q : Quality) : Quality :=
  { q with outlier := f.outlier, step := f.step, provisionalConfirm := f.confirm }

/-- The event UNSTABLE of group `g` (R67). -/
def raiseUnstable (g : Group) (s : State) : State :=
  raiseEvent .unstable (some g)
    [val 4, value ((s.est[g]).candidate.map Currents.iC), value (s.est[g]).iC, val (s.est[g]).state.code] s

/-- The last cycle of group `g`'s estimate is written and its early note cleared (R57 step 6, R72). -/
def noteCycle (g : Group) (o : CycleOutcome) (q : Quality) (s : State) : State :=
  s.setEst g { s.est[g] with lastCycle := some (o, q), early := false }

/-- An accepted cycle of group `g` is folded (R57 steps 2 to 6, R73). The events ESTIMATE, UNSTABLE and STALE with the value 0
come in this order, which R57, R73 and R184 leave open (log entry 43, DESIGN CHOICE). -/
def acceptCycle (g : Group) (k : Capture) (r : CycleResult) (q : Quality) (s : State) : State :=
  let before := s.est[g]
  let f := foldResult s.settings.stepThreshold s.settings.blend r.currents before
  let q := f.quality q
  let s := s.setEst g (f.est.accepted s.time k.coilCurrent r.uNat)
  let s := match f.reason with
    | some reason => raiseEstimate g reason s
    | none => s
  let s := if f.unstable then raiseUnstable g s else s
  let s := if before.stale then raiseStaleCleared g s else s
  let s := if f.followUp then setFlag g s else s
  let s := takeOutcome g f.kind r.currents.iC before.changeMark s
  let s := s.setEst g { s.est[g] with changeMark := decide (f.kind = .early) && before.changeMark }
  let s := handEstimate g before s
  let s := noteCycle g .accepted q s
  appendHistory (captureRecord k .accepted none q (some r) (some ((s.est[g]).state, (s.est[g]).value)) (groupDetuning s g) s) s

/-- A rejected cycle of group `g` (R75): the estimate keeps everything but its last cycle and early note. -/
def rejectCycle (g : Group) (k : Capture) (q : Quality) (s : State) : State :=
  let s := noteCycle g .rejected q s
  appendHistory (captureRecord k .rejected none q none none none s) s

/-- A cycle of group `g` ends with the complete capture `k` (R42). -/
def endCycle (g : Group) (k : Capture) (s : State) : State :=
  let s := injectorOff k.lead g s
  let zero : Phasor := ⟨0, 0⟩
  let r := cycleResult s.settings.uMin k.coilCurrent (k.uA.getD zero) (k.iA.getD zero) (k.uB.getD zero) (k.iB.getD zero) k.quality
  let s := match r.1 with
    | some result => acceptCycle g k result r.2 s
    | none => rejectCycle g k r.2 s
  let s := restartPeriodic g s
  s.setMachine g (s.seq.machine[g]).ended

/-! ## Progress at a cycle boundary (R41, R42) -/

/-- The channel of U0 of a section (section 1.1). -/
def u0Channel (q : Section) : Channel := ⟨q.val, by omega⟩

/-- The channel of IINJ of a coil (section 1.1). -/
def iinjChannel (c : Coil) : Channel := ⟨4 + c.val, by omega⟩

/-- The channel of UREF of a section (section 1.1). -/
def urefChannel (q : Section) : Channel := ⟨8 + q.val, by omega⟩

/-- A window takes the cycle phasors just published (R41), with the saturation flags (R9) and the FREQ_HELD condition (R53). -/
def Capture.take (s : State) (k : Capture) : Capture :=
  { k with
    uWindow := k.uWindow ++ [s.acq.phasor[u0Channel k.leadSection]]
    iWindow := k.iWindow ++ [s.acq.phasor[iinjChannel k.lead]]
    uSaturated := k.uSaturated || s.acq.saturated[u0Channel k.leadSection]
    iSaturated := k.iSaturated || s.acq.saturated[iinjChannel k.lead]
    quality := { k.quality with freqHeld := k.quality.freqHeld || s.tracker.held } }

/-- A complete window is put away: its saturation indication (R53) is noted and the window is empty again. -/
def Capture.formed (k : Capture) : Capture :=
  { k with
    count := 0
    uWindow := []
    iWindow := []
    uSaturated := false
    iSaturated := false
    quality := { k.quality with saturatedInput := k.quality.saturatedInput || k.uSaturated || k.iSaturated } }

/-- WINDOW_A is complete (R41): U_A and I_A are formed. -/
def Capture.formA (k : Capture) : Capture :=
  { k.formed with uA := some (windowPhasor k.uWindow), iA := some (windowPhasor k.iWindow) }

/-- WINDOW_B is complete (R42): U_B and I_B are formed. -/
def Capture.formB (k : Capture) : Capture :=
  { k.formed with uB := some (windowPhasor k.uWindow), iB := some (windowPhasor k.iWindow) }

/-- Write a machine's state and capture. -/
def progress (g : Group) (state : CycleState) (k : Capture) (s : State) : State :=
  s.setMachine g { s.seq.machine[g] with state := state, capture := some k }

/-- A machine in `state` with capture `k` at a cycle boundary (R41, R42): settle counts and windows advance, and the transition
they complete is made. -/
def advance (g : Group) (state : CycleState) (k : Capture) (s : State) : State :=
  match state with
  | .settleA =>
    if k.settle ≤ k.count + 1 then progress g .windowA { k with count := 0 } s
    else progress g .settleA { k with count := k.count + 1 } s
  | .windowA =>
    let k := k.take s
    if k.window ≤ k.uWindow.length then injectorFlip k.lead (progress g .settleB k.formA s) else progress g .windowA k s
  | .settleB =>
    if k.settle ≤ k.count + 1 then progress g .windowB { k with count := 0 } s
    else progress g .settleB { k with count := k.count + 1 } s
  | .windowB =>
    let k := k.take s
    if k.window ≤ k.uWindow.length then endCycle g k.formB (progress g .windowB k.formB s) else progress g .windowB k s
  | .idle => s
  | .waiting => s

/-- The sequencer's work at a cycle boundary for group `g` (R41, R42). -/
def sequencerWork (g : Group) (s : State) : State :=
  match (s.seq.machine[g]).capture with
  | none => s
  | some k => advance g (s.seq.machine[g]).state k s

end Sys2Proof.Machine
end

