-- ==== Sys2Proof/Machine/GroupChange.lean ====
section
/-! DEFINITION. A topology change taken whole (R30 to R33) with what every block does within it: the sequencer (R39, R46, R50,
R51), the estimator (R54, R55, R79 to R81), the feeder register (R94), the supervisor (R154), the planner (R107, R108) and the
drives (R134, R135). The order in which the blocks act is the model's where the manual leaves it open (log entry 9). -/

namespace Sys2Proof.Machine

/-! ## What changed (R31, R32) -/

/-- A group change is found for group `g` of the new table (R31): its sections or its members differ from those of the group
that held the same lowest section before. -/
def groupChanged (old new : Topology) (g : Group) : Bool :=
  let og := old.groupOf[g]
  !(old.sections og == new.sections g) || !((old.group[og]).members == (new.group[g]).members)

/-- The groups after the change that have undergone a group change, in increasing order (R31). -/
def changedGroups (old new : Topology) : List Group := new.groups.filter (groupChanged old new)

/-- The groups that disappeared in the change (R31). -/
def lostGroups (old new : Topology) : List Group := old.groups.filter (fun g => !new.inUse g)

/-- The groups that came into use in the change (R39). -/
def freshGroups (old new : Topology) : List Group := new.groups.filter (fun g => !old.inUse g)

/-- The groups before the change from which group `g` after it draws sections, in increasing order (R32). -/
def lineage (old new : Topology) (g : Group) : List Group :=
  old.groups.filter (fun og => (new.sections g).any (fun q => old.groupOf[q] == og))

/-- The event GROUP_CHANGE of group `g` (R31). -/
def raiseGroupChange (old new : Topology) (g : Group) (s : State) : State :=
  let og := old.groupOf[g]
  raiseEvent .groupChange (some g)
    [val (sectionMask (old.sections og)), val (sectionMask (new.sections g)), val (old.group[og]).members.length,
     val (new.group[g]).members.length] s

/-! ## The sequencer (R36, R39, R46, R50, R51) -/

/-- The cycles whose lead is coil `c` are aborted with ABORTED_INJECTOR (R51). -/
def abortLead (c : Coil) (s : State) : State :=
  forEach four (fun g s =>
    if ((s.seq.machine[g]).capture.map Capture.lead) = some c then abortCycle g .abortedInjector s else s) s

/-- The availability of coil `c`'s injector is recomputed (R36): a change raises INJECTOR with the reason 1, the lead coils are
chosen anew (R28), and a cycle that loses its injector is aborted (R51). The spec orders neither of the events INJECTOR and
CYCLE_ABORTED before the other; INJECTOR comes first here (log entry 41, DESIGN CHOICE). -/
def injectorAvailability (c : Coil) (s : State) : State :=
  let a := availability s s.topo c
  if a = (s.seq.injector[c]).available then s
  else
    let s := s.setInjector c { s.seq.injector[c] with available := a }
    let s := { s with topo := s.topo.recomputed (availability s s.topo) }
    let s := raiseInjector c 1 s
    if a then s else abortLead c s

/-- The machines of groups that went out of use are at rest; those of groups that came into use start in IDLE with their
periodic timer started (R39). -/
def machineUse (old new : Topology) (s : State) : State :=
  let s := forEach (lostGroups old new) (fun g s => s.setMachine g CycleMachine.rest) s
  forEach (freshGroups old new) (fun g s => restartPeriodic g (s.setMachine g CycleMachine.rest)) s

/-- Group `g` after a change holds section k or k + 1 of a coupler k whose state changed (R45). -/
def couplerTouched (old new : Topology) (g : Group) : Bool :=
  let touched : List Section :=
    (if old.coupler[0] == new.coupler[0] then [] else [0, 1]) ++ (if old.coupler[1] == new.coupler[1] then [] else [1, 2])
      ++ (if old.coupler[2] == new.coupler[2] then [] else [2, 3])
  (new.sections g).any touched.contains

/-- A decision carried to the groups of a new table (R50): each group that holds marked sections takes a decision of its own. -/
def carryDecision (new : Topology) (d : Decision) : List Decision :=
  (new.groups.map (fun g => (⟨d.coil, d.marks.filter (fun q => new.groupOf[q] == g)⟩ : Decision))).filter
    (fun d => !d.marks.isEmpty)

/-- The sequencer within a topology change (R39, R45, R46, R50, R51): aborts, machines, availability, switching triggers and
decisions. CYCLE_ABORTED of an aborted cycle comes before INJECTOR of a changed availability, an order R184 leaves open (log entry
49, DESIGN CHOICE). -/
def sequencerChange (old new : Topology) (s : State) : State :=
  let changed := changedGroups old new
  let s := forEach (old.groups.filter (fun g => changed.contains g || !new.inUse g)) (fun g => abortCycle g .abortedTopology) s
  let s := forEach (new.groups.filter (fun g => (new.group[g]).held)) (fun g => abortCycle g .abortedTopology) s
  let s := machineUse old new s
  let s := forEach four injectorAvailability s
  let s := forEach (new.groups.filter (fun g => changed.contains g || couplerTouched old new g)) switchTrigger s
  s.setDecisions (s.seq.decisions.flatMap (carryDecision new))

/-! ## The estimator (R54, R55, R79 to R81) -/

/-- The lesser of two counts, a stopped one counting as unlimited (R54). -/
def leastCount (a b : Option Nat) : Option Nat :=
  match a, b with
  | some x, some y => some (min x y)
  | some x, none => some x
  | none, y => y

/-- The sum of two currents saturated at 65535 (R80). -/
def saturatedSum (a b : Nat) : Nat := min 65535 (a + b)

/-- A value of both, from two optional ones. -/
def both {α : Type} (f : α → α → α) (a b : Option α) : Option α :=
  match a, b with
  | some x, some y => some (f x y)
  | _, _ => none

/-- The record of a merge (R80), of the lower and the higher old estimate. -/
def mergeEstimates (lo hi : Estimate) : Estimate :=
  let isFrozen := decide (lo.state = .frozen) || decide (hi.state = .frozen)
  let merged := both (fun a b : Currents => ⟨saturatedSum a.iC b.iC, saturatedSum a.iG b.iG⟩) lo.value hi.value
  let behind : EstState := if merged.isSome then .provisional else .empty
  { Estimate.reset with
    state := if isFrozen then .frozen else behind
    returnState := if isFrozen then some behind else none
    value := merged
    lastAccepted := if merged.isSome then both min lo.lastAccepted hi.lastAccepted else none
    age := if merged.isSome then both max lo.age hi.age else none
    lastCoilCurrent := if merged.isSome then both saturatedSum lo.lastCoilCurrent hi.lastCoilCurrent else none
    stale := merged.isSome && (lo.stale || hi.stale)
    changeMark := true }

/-- One side of a split whose parent could be divided (R81). -/
def sideValued (parent : Estimate) (v : Currents) : Estimate :=
  { Estimate.reset with
    state := .provisional
    value := some v
    lastAccepted := parent.lastAccepted
    age := parent.age
    stale := parent.stale
    changeMark := true }

/-- One side of a split whose parent could not be divided (R81). -/
def sideEmpty : Estimate := { Estimate.reset with changeMark := true }

/-- The lower side's share of a current (R81): round(x·S_low/(S_low + S_high)). -/
def lowerShare (x sLow sHigh : Nat) : Nat := (roundDiv ((x * sLow : Nat) : Int) (sLow + sHigh)).toNat

/-- The two records of a split (R81), by the parent and the contribution sums of the sides. -/
def splitEstimates (parent : Estimate) (low high : Option Nat) : Estimate × Estimate :=
  match parent.value, low, high with
  | some v, some l, some h =>
    if 0 < l ∧ 0 < h then
      let c := lowerShare v.iC l h
      let d := lowerShare v.iG l h
      (sideValued parent ⟨max 1 c, d⟩, sideValued parent ⟨max 1 (v.iC - c), v.iG - d⟩)
    else (sideEmpty, sideEmpty)
  | _, _, _ => (sideEmpty, sideEmpty)

/-- STALE for a record that changed from one estimate to another within a merge or split (R77, R80, R81). -/
def raiseStaleChange (g : Group) (before after : Bool) (s : State) : State :=
  if after && !before then raiseStale g s else if before && !after then raiseStaleCleared g s else s

/-- The estimates of groups `lo` and `hi` merge into `lo` (R80). -/
def mergeRecords (lo hi : Group) (s : State) : State :=
  let a := s.est[lo]
  let b := s.est[hi]
  let s := (s.setEst lo (mergeEstimates a b)).setEst hi Estimate.reset
  let s := raiseStaleChange lo a.stale (s.est[lo]).stale s
  let s := raiseStaleChange hi b.stale false s
  raiseEstimate lo .merged s

/-- The estimate of group `lo` is divided between `lo` and `hi` (R81), by the contribution sums of their sections. A
stale parent's STALE with 0 comes before the two ESTIMATE events; R77 and R81 give no order for it (log entry 50, DESIGN CHOICE). -/
def splitRecords (new : Topology) (lo hi : Group) (s : State) : State :=
  let parent := s.est[lo]
  let sides := splitEstimates parent (splitSum s (new.sections lo)) (splitSum s (new.sections hi))
  let s := (s.setEst lo sides.1).setEst hi sides.2
  let s := raiseStaleChange lo parent.stale sides.1.stale s
  let s := raiseStaleChange hi false sides.2.stale s
  raiseEstimate hi .split (raiseEstimate lo .split s)

/-- The estimate of a group of a "membership only" change (R79). -/
def markMembership (g : Group) (s : State) : State := s.setEst g { s.est[g] with changeMark := true }

/-- The estimate record of each changed group (R79 to R81), by the lineage of R32. -/
def recordChange (old new : Topology) (s : State) : State :=
  forEach (changedGroups old new) (fun g s =>
    match lineage old new g with
    | [a, b] => mergeRecords a b s
    | [a] =>
      if old.inUse g then
        match (freshGroups old new).filter (fun h => old.groupOf[h] == a) with
        | [h] => splitRecords new g h s
        | _ => markMembership g s
      else s
    | _ => s) s

/-- The natural displacement state of a changed group (R54, R55): the quiet history is emptied, detection disarmed, and the count
since a switch-off is the least of the groups it draws from. -/
def naturalChange (old new : Topology) (before : Vector Estimate 4) (g : Group) (s : State) : State :=
  let since := (lineage old new g).foldl (fun acc og => leastCount acc (before[og]).sinceOff) none
  s.setEst g { s.est[g] with quiet := [], armed := false, sinceOff := since }

/-- The estimator within a topology change. -/
def estimatorChange (old new : Topology) (s : State) : State :=
  let before := s.est
  let s := recordChange old new s
  forEach (changedGroups old new) (naturalChange old new before) s

/-! ## The feeder register (R94) -/

/-- The transition list of a changed group (R94). -/
def listChange (old new : Topology) (before : Vector TransitionList 4) (g : Group) (s : State) : State :=
  match lineage old new g with
  | [a, b] => (s.setList a (mergeLists before[a] before[b])).setList b ⟨[], false⟩
  | [a] => s.setList g (sideList before[a] (new.sections g))
  | _ => s

/-- The feeder register within a topology change (R94): a membership change keeps every list, whose entries all lie in it. -/
def registerChange (old new : Topology) (s : State) : State :=
  let before := s.reg.list
  forEach ((changedGroups old new).filter (fun g => !(old.sections g == new.sections g && old.inUse g)))
    (listChange old new before) s

/-! ## The supervisor (R154) -/

/-- The later of two running holds (R154). -/
def laterHold (a b : Timer) : Timer :=
  match a, b with
  | some x, some y => some (max x y)
  | some x, none => some x
  | none, y => y

/-- The hold of a changed group (R154): cancelled by an open episode, else the latest of the groups it draws from. -/
def holdChange (old new : Topology) (before : Vector Timer 4) (g : Group) (s : State) : State :=
  s.setHold g
    (if episodeCondition s g then none else (lineage old new g).foldl (fun acc og => laterHold acc before[og]) none)

/-- The conditions of a changed group handed on (R76, R134, R154): its drives stop under an open episode, and its estimate is
FROZEN exactly when the group is. -/
def conditionChange (g : Group) (s : State) : State :=
  let s := if episodeCondition s g then interruptDrives g s else s
  s.setEst g (if frozen s g then (s.est[g]).freeze else (s.est[g]).unfreeze)

/-- The supervisor within a topology change. -/
def supervisorChange (old new : Topology) (s : State) : State :=
  let before := s.sup.hold
  let s := forEach (changedGroups old new) (holdChange old new before) s
  let s := forEach (lostGroups old new) (fun g s => s.setHold g none) s
  forEach (changedGroups old new) conditionChange s

/-! ## The drives and the planner -/

/-- Coil `c`'s drive within a topology change (R120, R135): the mode change, the report taken as it stands when the coil becomes
MANUAL or AUTO or its type changes, and the supervision of the feedback. -/
def driveChange (old new : Topology) (c : Coil) (s : State) : State :=
  let a := old.coil[c]
  let b := new.coil[c]
  let s := modeChangeDrive c a.mode b.mode s
  if !(a.type == b.type) || (b.mode.member && !a.mode.member) then
    let s := takeReport c s
    if feedbackLost s c then faultDrive c .feedback s else s
  else s

/-- A coil of group `g` changed between MANUAL and AUTO (R33, R108). -/
def modeSwitched (old new : Topology) (g : Group) : Bool :=
  (new.group[g]).members.any (fun c => (old.coil[c]).mode.member && !((old.coil[c]).mode == (new.coil[c]).mode))

/-- The group left the held state (R33, R108). -/
def relieved (old new : Topology) (g : Group) : Bool := (old.group[old.groupOf[g]]).held && !(new.group[g]).held

/-- The groups a topology or mode change asks a planning of (R108), once each. -/
def replanned (old new : Topology) : List Group :=
  new.groups.filter (fun g => groupChanged old new g || relieved old new g || modeSwitched old new g)

/-- A change of couplers or coil records taken whole (R30): the change is applied and everything derived from it recomputed,
GROUP_CHANGE is raised, and the blocks act. A change that alters no group, held flag, mode or type leaves them as they were. -/
def changeTopology (f : Topology → Topology) (s : State) : State :=
  let old := s.topo
  let new := (f old).recomputed (availability s (f old))
  let s := { s with topo := new }
  let s := forEach (changedGroups old new) (raiseGroupChange old new) s
  let s := sequencerChange old new s
  let s := estimatorChange old new s
  let s := registerChange old new s
  let s := supervisorChange old new s
  let s := forEach (lostGroups old new) retirePlan s
  let s := forEach (freshGroups old new) (fun g s => s.setPlan g PlanRecord.reset) s
  let s := forEach four (driveChange old new) s
  forEach (replanned old new) planGroup s

/-- Coil `c` takes a mode (R23, R24). -/
def setMode (c : Coil) (m : CoilMode) (s : State) : State :=
  changeTopology (fun t => { t with coil := t.coil.set c { t.coil[c] with mode := m } }) s

/-- Coupler `k` takes a state; one it already has changes nothing (R19). -/
def setCoupler (k : Coupler) (st : CouplerState) (s : State) : State :=
  if s.topo.coupler[k] = st then s else changeTopology (fun t => { t with coupler := t.coupler.set k st }) s

end Sys2Proof.Machine
end

