-- ==== Sys2Proof/Machine/Contacts.lean ====
section
/-! DEFINITION. The contact input unit (chapter 9): debouncing, INPUT_CHANGE, coupler indications, assignments and what is
handed to the items' owners. -/

namespace Sys2Proof.Machine

/-- The active state of the input assigned `a`: none when no input is, or while it is undetermined. -/
def assignedActive (s : State) (a : Assignment) : Option Bool :=
  (s.contacts.input.toList.find? (fun i => i.assignment == a)).bind ContactInput.active

/-! ## Coupler indication (R160, R164, R165) -/

/-- The form of coupler `k`'s indication by the assignments in force (R160). -/
def formOf (s : State) (k : Coupler) : IndicationForm :=
  match anyAssigned s (.couplerClosed k), anyAssigned s (.couplerOpen k) with
  | false, false => .nothing
  | true, false => .singleClosed
  | false, true => .singleOpen
  | true, true => .double

/-- Write coupler `k`'s discrepancy timer. -/
def setDiscrepancy (k : Coupler) (t : Timer) (s : State) : State :=
  s.setIndication k { s.contacts.indication[k] with timer := t }

/-- Compare or follow coupler `k`'s contacts and deliver what they indicate (R164, R165). -/
def indicate (k : Coupler) (s : State) : State :=
  let closed := assignedActive s (.couplerClosed k)
  let opened := assignedActive s (.couplerOpen k)
  match (s.contacts.indication[k]).form, closed, opened with
  | .singleClosed, some a, _ => setCoupler k (if a then .closed else .opened) s
  | .singleOpen, _, some a => setCoupler k (if a then .opened else .closed) s
  | .double, some true, some false => setCoupler k .closed (setDiscrepancy k none s)
  | .double, some false, some true => setCoupler k .opened (setDiscrepancy k none s)
  | .double, some _, some _ =>
    if (s.contacts.indication[k]).timer.isSome then s else setDiscrepancy k (some s.settings.discrepancy) s
  | _, _, _ => s

/-- An assignment of coupler `k` was made or removed (R160, R164, R165): the form is recomputed; a form that is DOUBLE no longer
stops its timer, and a new form is indicated at once. -/
def reform (k : Coupler) (s : State) : State :=
  let old := s.contacts.indication[k]
  let new := formOf s k
  if new = old.form then s
  else indicate k (s.setIndication k ⟨new, if new = .double then old.timer else none⟩)

/-- Coupler `k`'s discrepancy timer expires (R165): UNKNOWN is delivered. -/
def discrepancyDone (k : Coupler) (s : State) : State := setCoupler k .unknown (setDiscrepancy k none s)

/-! ## Parking (R24) -/

/-- A COIL_PARK input of coil `c` becomes active (R24): a MANUAL or AUTO coil becomes PARKED. -/
def parkCoil (c : Coil) (s : State) : State := if (s.topo.coil[c]).mode.member then setMode c .parked s else s

/-- A COIL_PARK input of coil `c` is released (R24): a PARKED coil becomes MANUAL. -/
def releaseCoil (c : Coil) (s : State) : State := if (s.topo.coil[c]).mode = .parked then setMode c .manual s else s

/-! ## Changes of an input (R162, R166) -/

/-- Hand the new active state of an input to the item of its assignment (R162 step 3, R164 to R166). -/
def handActive (a : Assignment) (active : Bool) (s : State) : State :=
  match a with
  | .nothing => s
  | .couplerClosed k => indicate k s
  | .couplerOpen k => indicate k s
  | .feeder n => deliverFeeder n active s
  | .coilPark c => if active then parkCoil c s else releaseCoil c s
  | .injectorFault c => injectorAvailability c s
  | .limitUp c => if active then limitContact c true s else s
  | .limitDown c => if active then limitContact c false s else s

/-- The active state of input `i` changed (R162): INPUT_CHANGE, then the hand-off. -/
def inputChanged (i : ContactNo) (s : State) : State :=
  let r := s.contacts.input[i]
  match r.active, r.level with
  | some a, some l =>
    let s := raiseEvent .inputChange (some i)
      [val (bit a), val (bit l), val r.assignment.kindCode, value r.assignment.item] s
    handActive r.assignment a s
  | _, _ => s

/-- The debounce timer of input `i` expires (R161, R162). The first debounce writes the level and does nothing else. -/
def debounceDone (i : ContactNo) (s : State) : State :=
  let r := s.contacts.input[i]
  let s := s.setInput i { r with level := some r.raw, timer := none }
  match r.level with
  | none => s
  | some l => if l = r.raw then s else inputChanged i s

/-- Input `i`'s raw level changes (R161). Before the first debounce every edge restarts the timer; afterwards an edge away from
the debounced level starts it, and one back to it stops it. -/
def rawChange (high : Bool) (r : ContactInput) : ContactInput :=
  if r.raw = high then r
  else { r with raw := high, timer := if r.level = some high then none else some r.debounce }

/-- 150 ms after the start an undetermined input takes its raw level (R161). Its running debounce timer is stopped, which R161
leaves open (log entry 47, DESIGN CHOICE). -/
def firstLevel (r : ContactInput) : ContactInput :=
  if r.level.isNone then { r with level := some r.raw, timer := none } else r

/-- A polarity write for input `i` (R162): a change reverses the active state and is taken as a debounced change. -/
def writePolarity (i : ContactNo) (inverted : Bool) (s : State) : State :=
  let r := s.contacts.input[i]
  if r.inverted = inverted then s
  else inputChanged i (s.setInput i { r with inverted := inverted })

/-! ## Assignments (R163, R166) -/

/-- The item of an assignment that was removed from an input (R163 step 1, R164 to R166). -/
def assignmentRemoved (a : Assignment) (s : State) : State :=
  match a with
  | .couplerClosed k => reform k s
  | .couplerOpen k => reform k s
  | .feeder n => s.setFeeder n { s.reg.feeder[n] with source := none }
  | .injectorFault c => injectorAvailability c s
  | .nothing => s
  | .coilPark _ => s
  | .limitUp _ => s
  | .limitDown _ => s

/-- The item of an assignment that was made for input `i` (R163 step 2, R164 to R166). -/
def assignmentMade (i : ContactNo) (a : Assignment) (s : State) : State :=
  let active := (s.contacts.input[i]).active == some true
  match a with
  | .couplerClosed k => reform k s
  | .couplerOpen k => reform k s
  | .feeder n => takeIndication n (s.setFeeder n { s.reg.feeder[n] with source := some i })
  | .injectorFault c => injectorAvailability c s
  | .coilPark c => if active then parkCoil c s else s
  | .limitUp c => if active then limitContact c true s else s
  | .limitDown c => if active then limitContact c false s else s
  | .nothing => s

/-- Write input `i`'s assignment field alone. -/
def setAssignment (i : ContactNo) (a : Assignment) (s : State) : State :=
  s.setInput i { s.contacts.input[i] with assignment := a }

/-- An accepted assignment of input `i` (R163): the old assignment is removed, then the new one made. -/
def writeAssignment (i : ContactNo) (a : Assignment) (s : State) : State :=
  let old := (s.contacts.input[i]).assignment
  if old = a then s
  else
    let s := assignmentRemoved old (setAssignment i .nothing s)
    assignmentMade i a (setAssignment i a s)

end Sys2Proof.Machine
end

