-- ==== Sys2Proof/Machine/PlantEvents.lean ====
section
/-! DEFINITION. The commands for events at timers, at the position inputs and at the contact inputs. An expiry acts while its
timer runs, and leaves the part as it is otherwise (log entry 5). -/

namespace Sys2Proof.Machine

/-! ## Groups: cycles and their timers (R40, R45, R47, R77, R151) -/

/-- CYCLE_START (R40): the group's machine leaves WAITING when every start condition holds. -/
def execCycleStart (g : Group) (s : State) : Host.Outcome State Fault Refusal :=
  .next (if cycleReady s g then startCycle g s else s)

/-- The switching delay of group `g` expires (R45): the flag is set. -/
def switchingDone (g : Group) (s : State) : State :=
  if (s.seq.machine[g]).switching.isSome then setFlag g (s.setMachine g { s.seq.machine[g] with switching := none }) else s

/-- SWITCHING_DELAY_EXPIRY (R45). -/
def execSwitchingDelayExpiry (g : Group) (s : State) : Host.Outcome State Fault Refusal := .next (switchingDone g s)

/-- The periodic timer of group `g` expires (R47): the flag is set, and the timer is not restarted by its own expiry. -/
def periodicDone (g : Group) (s : State) : State :=
  if (s.seq.machine[g]).periodic.isSome then setFlag g (s.setMachine g { s.seq.machine[g] with periodic := none }) else s

/-- PERIODIC_TIMER_EXPIRY (R47). -/
def execPeriodicTimerExpiry (g : Group) (s : State) : Host.Outcome State Fault Refusal := .next (periodicDone g s)

/-- The age of group `g`'s estimate passes the maximum age (R77): the age is then at least one ms beyond it, and the stale flag
is set. -/
def ageDone (g : Group) (s : State) : State :=
  match (s.est[g]).age with
  | none => s
  | some a =>
    if (s.est[g]).stale || (s.est[g]).value.isNone || !s.topo.inUse g then s
    else testStale g (s.setEst g { s.est[g] with age := some (max a (s.settings.maxAge * 1000 + 1)) })

/-- AGE_TIMER_EXPIRY (R77). -/
def execAgeTimerExpiry (g : Group) (s : State) : Host.Outcome State Fault Refusal := .next (ageDone g s)

/-- POST_FAULT_HOLD_EXPIRY (R151). -/
def execPostFaultHoldExpiry (g : Group) (s : State) : Host.Outcome State Fault Refusal :=
  .next (if (s.sup.hold[g]).isSome then endHold g s else s)

/-! ## Coil drives (R120, R127, R129, R130, R132, R133) -/

/-- A PENDING drive starts its target when every gate holds (R126, R127). -/
def startPending (c : Coil) (s : State) : State :=
  match startable s c with
  | none => s
  | some t => startMove c t s

/-- MOVE_START (R127). -/
def execMoveStart (c : Coil) (s : State) : Host.Outcome State Fault Refusal := .next (startPending c s)

/-- POSITION_REPORT (R120). -/
def execPositionReport (c : Coil) (code : Nat) (valid : Bool) (s : State) : Host.Outcome State Fault Refusal :=
  .next (positionChange c code valid s)

/-- TRAVEL_TIMER_EXPIRY (R129). -/
def execTravelTimerExpiry (c : Coil) (s : State) : Host.Outcome State Fault Refusal :=
  .next (if (s.drive[c]).travel.isSome && (s.drive[c]).state.running then enterFault c .timeout s else s)

/-- STEP_TIMER_EXPIRY (R130). -/
def execStepTimerExpiry (c : Coil) (s : State) : Host.Outcome State Fault Refusal :=
  .next (if (s.drive[c]).step.isSome && (s.drive[c]).state.running then enterFault c .timeout s else s)

/-- The inter-step delay ends (R130): the limit contact of the direction is tested, and the next step begins. -/
def delayDone (c : Coil) (s : State) : State :=
  if limitActive s c ((s.drive[c]).state == .runningUp) then enterStopping c .limit s else beginStep c s

/-- DELAY_TIMER_EXPIRY (R130). -/
def execDelayTimerExpiry (c : Coil) (s : State) : Host.Outcome State Fault Refusal :=
  .next (if (s.drive[c]).delay.isSome && (s.drive[c]).state.running then delayDone c s else s)

/-- COAST_TIMER_EXPIRY (R132). -/
def execCoastTimerExpiry (c : Coil) (s : State) : Host.Outcome State Fault Refusal :=
  .next (if (s.drive[c]).coast.isSome then endCoast c s else s)

/-- INTERVAL_TIMER_EXPIRY (R133): the timer is expired; a PENDING drive may then start (MOVE_START). -/
def execIntervalTimerExpiry (c : Coil) (s : State) : Host.Outcome State Fault Refusal :=
  .next (s.setDrive c { s.drive[c] with interval := none })

/-! ## Earth-fault supervision (R145, R149, R153) -/

/-- START_DWELL_EXPIRY (R145): the running start dwell of a section outside every open episode opens an episode. -/
def execStartDwellExpiry (q : Section) (s : State) : Host.Outcome State Fault Refusal :=
  .next (match (s.sup.watch[q]).start, openEpisode s q with
    | some d, none => openEpisodeAt q d s
    | _, _ => s)

/-- END_DWELL_EXPIRY (R149). -/
def execEndDwellExpiry (q : Section) (s : State) : Host.Outcome State Fault Refusal :=
  .next (if (s.sup.watch[q]).endDwell.isSome then endDwellDone q s else s)

/-- PERSISTENCE_TIMER_EXPIRY (R153), of the open episode that section `q` belongs to. -/
def execPersistenceTimerExpiry (q : Section) (s : State) : Host.Outcome State Fault Refusal := .next (persist q s)

/-! ## Contact inputs (R161, R162, R165) -/

/-- RAW_LEVEL_CHANGE (R161). -/
def execRawLevelChange (i : ContactNo) (high : Bool) (s : State) : Host.Outcome State Fault Refusal :=
  .next (s.setInput i (rawChange high s.contacts.input[i]))

/-- DEBOUNCE_TIMER_EXPIRY (R161, R162). -/
def execDebounceTimerExpiry (i : ContactNo) (s : State) : Host.Outcome State Fault Refusal :=
  .next (if (s.contacts.input[i]).timer.isSome then debounceDone i s else s)

/-- FIRST_DEBOUNCE_TIMEOUT (R161): while the 150 ms run, every undetermined input takes its raw level. -/
def execFirstDebounceTimeout (s : State) : Host.Outcome State Fault Refusal :=
  .next (if s.contacts.startTimer.isSome then
      { s with contacts := { s.contacts with input := s.contacts.input.map firstLevel, startTimer := none } }
    else s)

/-- DISCREPANCY_TIMER_EXPIRY (R165). -/
def execDiscrepancyTimerExpiry (k : Coupler) (s : State) : Host.Outcome State Fault Refusal :=
  .next (if (s.contacts.indication[k]).timer.isSome then discrepancyDone k s else s)

end Sys2Proof.Machine
end

