-- ==== Sys2Proof/Decode.lean ====
section
/-! DEFINITION. How bytes spell a command. The opcode table gives its rows no bits, so `decodeTableWord` answers none. A request
reaches the part as the body of a frame: `requestOf` reads the catalogue of R174, and `requestFields` writes a request in it. -/

namespace Sys2Proof

/-! ## Numbers in bytes (section 6.5 of the scope file: the most significant byte first) -/

/-- `v` in `n` bytes, most significant first. -/
def be : Nat → Nat → List Byte
  | 0, _ => []
  | n + 1, v => BitVec.ofNat 8 (v / 256 ^ n) :: be n v

/-- The unsigned number that bytes spell, most significant first, `acc` standing before them. -/
def beNatFrom (acc : Nat) : List Byte → Nat
  | [] => acc
  | b :: bs => beNatFrom (256 * acc + b.toNat) bs

/-- The unsigned number that bytes spell. -/
def beNat (bs : List Byte) : Nat := beNatFrom 0 bs

/-- A number below 2^bits read as two's complement. -/
def signedOf (bits n : Nat) : Int := if n < 2 ^ (bits - 1) then n else (n : Int) - (2 ^ bits : Nat)

/-- A signed number as the number its two's complement bits spell. -/
def unsignedOf (bits : Nat) (v : Int) : Nat := (v % (2 ^ bits : Nat)).toNat

/-! ## Reading a request (R173, R174) -/

/-- What the dispatcher finds in a request (R173): a kind outside the catalogue, a payload length that does not match the
kind, or a request. -/
inductive Request where
  | unknownKind
  | badLength
  | taken (i : Instr)
  deriving DecidableEq, Repr

/-- A SET with its row (R176): the settings whose write acts at once have rows of their own. -/
def setRow (tag id scope : Nat) (value : Int) : Instr :=
  match id with
  | 0x0002 => .setNominalFrequency tag scope value
  | 0x0010 => .setInjectorLevel tag scope value
  | 0x0014 => .setPeriodicInterval tag scope value
  | 0x0023 => .setMaximumAge tag scope value
  | 0x0040 => .setStopTolerance tag false scope value
  | 0x0041 => .setStopTolerance tag true scope value
  | 0x0050 => .setStartThreshold tag scope value
  | 0x0061 => .setInputPolarity tag scope value
  | 0x0062 => .setInputAssignment tag scope value
  | _ => .set tag id scope value

/-- The points of a TABLE_POINTS payload after its count (R178), four bytes each; none when the bytes do not come in fours. -/
def pointsOf : List Byte → Option (List (Nat × Nat))
  | [] => some []
  | p1 :: p0 :: c1 :: c0 :: rest => (pointsOf rest).map ((beNat [p1, p0], beNat [c1, c0]) :: ·)
  | _ => none

/-- A TABLE_POINTS payload (R178): 1 + 4m bytes, the first of them m. -/
def pointsRequest (tag : Nat) : List Byte → Request
  | [] => .badLength
  | m :: rest =>
    match pointsOf rest with
    | none => .badLength
    | some ps => if ps.length = m.toNat then .taken (.tablePoints tag ps) else .badLength

/-- The request of a frame's kind, tag and payload, by the catalogue of R174. -/
def requestOf (kind tag : Nat) (payload : List Byte) : Request :=
  match kind with
  | 0x01 => match payload with | [] => .taken (.ident tag) | _ => .badLength
  | 0x02 => match payload with
    | [a, b, c, d, e, f] => .taken (.timeSet tag (beNat [a, b, c, d, e, f]))
    | _ => .badLength
  | 0x03 => match payload with
    | [i1, i0, k, v3, v2, v1, v0] =>
      .taken (setRow tag (beNat [i1, i0]) k.toNat (signedOf 32 (beNat [v3, v2, v1, v0])))
    | _ => .badLength
  | 0x04 => match payload with
    | [i1, i0, k] => .taken (.get tag (beNat [i1, i0]) k.toNat)
    | _ => .badLength
  | 0x10 => match payload with | [k, v] => .taken (.couplerSet tag k.toNat v.toNat) | _ => .badLength
  | 0x11 => match payload with
    | [c, p, t, q, j] => .taken (.coilConfig tag c.toNat p.toNat t.toNat q.toNat j.toNat)
    | _ => .badLength
  | 0x12 => match payload with | [c, m] => .taken (.coilMode tag c.toNat m.toNat) | _ => .badLength
  | 0x13 => match payload with | [c, p1, p0] => .taken (.coilMove tag c.toNat (beNat [p1, p0])) | _ => .badLength
  | 0x14 => match payload with | [c] => .taken (.coilStop tag c.toNat) | _ => .badLength
  | 0x15 => match payload with | [c] => .taken (.driveClear tag c.toNat) | _ => .badLength
  | 0x18 => match payload with
    | [n, d, q, m, c1, c0] => .taken (.feederDefine tag n.toNat d.toNat q.toNat m.toNat (beNat [c1, c0]))
    | _ => .badLength
  | 0x19 => match payload with | [n, v] => .taken (.feederSet tag n.toNat v.toNat) | _ => .badLength
  | 0x1A => match payload with | [n] => .taken (.feederRead tag n.toNat) | _ => .badLength
  | 0x1C => match payload with
    | [q, v1, v0] => .taken (.setpoint tag q.toNat (signedOf 16 (beNat [v1, v0])))
    | _ => .badLength
  | 0x1D => match payload with | [q] => .taken (.measure tag q.toNat) | _ => .badLength
  | 0x20 => match payload with | [q] => .taken (.readEstimate tag q.toNat) | _ => .badLength
  | 0x21 => match payload with | [c] => .taken (.readCoil tag c.toNat) | _ => .badLength
  | 0x22 => match payload with | [] => .taken (.readInputs tag) | _ => .badLength
  | 0x23 => match payload with
    | [n3, n2, n1, n0, k] => .taken (.readHistory tag (beNat [n3, n2, n1, n0]) k.toNat)
    | _ => .badLength
  | 0x24 => match payload with | [] => .taken (.readFaults tag) | _ => .badLength
  | 0x28 => match payload with | [] => .taken (.eventsRead tag) | _ => .badLength
  | 0x29 => match payload with | [k1, k0] => .taken (.eventsClear tag (beNat [k1, k0])) | _ => .badLength
  | 0x2A => match payload with | [k1, k0] => .taken (.noticeMask tag (beNat [k1, k0])) | _ => .badLength
  | 0x2B => match payload with
    | [t, h1, h0] => .taken (.noticeConfig tag t.toNat (beNat [h1, h0]))
    | _ => .badLength
  | 0x30 => match payload with | [c, n] => .taken (.tableOpen tag c.toNat n.toNat) | _ => .badLength
  | 0x31 => pointsRequest tag payload
  | 0x32 => match payload with | [] => .taken (.tableCommit tag) | _ => .badLength
  | 0x38 => match payload with | [] => .taken (.run tag) | _ => .badLength
  | 0x39 => match payload with | [] => .taken (.stop tag) | _ => .badLength
  | 0x3A => match payload with | [] => .taken (.restart tag) | _ => .badLength
  | _ => .unknownKind

/-! ## Writing a request (R174) -/

/-- The payload of a SET (R174). -/
def setPayload (id scope : Nat) (value : Int) : List Byte := be 2 id ++ be 1 scope ++ be 4 (unsignedOf 32 value)

/-- The kind, tag and payload that spell a request (R174); none for a command that is no request of the catalogue. -/
def requestFields : Instr → Option (Nat × Nat × List Byte)
  | .ident tag => some (0x01, tag, [])
  | .timeSet tag time => some (0x02, tag, be 6 time)
  | .set tag id scope v => some (0x03, tag, setPayload id scope v)
  | .setNominalFrequency tag scope v => some (0x03, tag, setPayload 0x0002 scope v)
  | .setInjectorLevel tag scope v => some (0x03, tag, setPayload 0x0010 scope v)
  | .setPeriodicInterval tag scope v => some (0x03, tag, setPayload 0x0014 scope v)
  | .setMaximumAge tag scope v => some (0x03, tag, setPayload 0x0023 scope v)
  | .setStartThreshold tag scope v => some (0x03, tag, setPayload 0x0050 scope v)
  | .setStopTolerance tag tap scope v => some (0x03, tag, setPayload (if tap then 0x0041 else 0x0040) scope v)
  | .setInputPolarity tag scope v => some (0x03, tag, setPayload 0x0061 scope v)
  | .setInputAssignment tag scope v => some (0x03, tag, setPayload 0x0062 scope v)
  | .get tag id scope => some (0x04, tag, be 2 id ++ be 1 scope)
  | .couplerSet tag k v => some (0x10, tag, be 1 k ++ be 1 v)
  | .coilConfig tag c p t q j => some (0x11, tag, be 1 c ++ be 1 p ++ be 1 t ++ be 1 q ++ be 1 j)
  | .coilMode tag c m => some (0x12, tag, be 1 c ++ be 1 m)
  | .coilMove tag c p => some (0x13, tag, be 1 c ++ be 2 p)
  | .coilStop tag c => some (0x14, tag, be 1 c)
  | .driveClear tag c => some (0x15, tag, be 1 c)
  | .feederDefine tag n d q m c => some (0x18, tag, be 1 n ++ be 1 d ++ be 1 q ++ be 1 m ++ be 2 c)
  | .feederSet tag n v => some (0x19, tag, be 1 n ++ be 1 v)
  | .feederRead tag n => some (0x1A, tag, be 1 n)
  | .setpoint tag q v => some (0x1C, tag, be 1 q ++ be 2 (unsignedOf 16 v))
  | .measure tag q => some (0x1D, tag, be 1 q)
  | .readEstimate tag q => some (0x20, tag, be 1 q)
  | .readCoil tag c => some (0x21, tag, be 1 c)
  | .readInputs tag => some (0x22, tag, [])
  | .readHistory tag first n => some (0x23, tag, be 4 first ++ be 1 n)
  | .readFaults tag => some (0x24, tag, [])
  | .eventsRead tag => some (0x28, tag, [])
  | .eventsClear tag k => some (0x29, tag, be 2 k)
  | .noticeMask tag k => some (0x2A, tag, be 2 k)
  | .noticeConfig tag t h => some (0x2B, tag, be 1 t ++ be 2 h)
  | .tableOpen tag c n => some (0x30, tag, be 1 c ++ be 1 n)
  | .tablePoints tag ps => some (0x31, tag, be 1 ps.length ++ ps.flatMap (fun p => be 2 p.1 ++ be 2 p.2))
  | .tableCommit tag => some (0x32, tag, [])
  | .run tag => some (0x38, tag, [])
  | .stop tag => some (0x39, tag, [])
  | .restart tag => some (0x3A, tag, [])
  | _ => none

/-! ## The table's words -/

/-- The command that a word of the opcode table spells. The table gives bits to none of its rows: no word spells a command. -/
def decodeTableWord (_nbits _w : Nat) : Option Instr := none

end Sys2Proof
end

