-- ==== Sys2Proof/Machine/Operands.lean ====
section
/-! DEFINITION. The settings table (R199): ids, scopes, limits, how a setting is read and written, and what a write does at once. -/

namespace Sys2Proof.Machine

/-- The settings of the table of R199. -/
inductive SettingId where
  | gain | nominal | injectorLevel | tSettle | window | tSwitch | periodic | jump | uMin | stepThreshold | blend | maxAge
  | deadband | plungerTolerance | tapTolerance | speed | margin | coast | stepLimit | interStep | moveInterval
  | uStart | tStart | uEnd | tEnd | tHold | tMax | debounce | polarity | assignment | discrepancy
  deriving DecidableEq, Repr

/-- The setting an id names (R199). -/
def SettingId.ofCode (id : Nat) : Option SettingId :=
  match id with
  | 0x0001 => some .gain | 0x0002 => some .nominal | 0x0010 => some .injectorLevel | 0x0011 => some .tSettle
  | 0x0012 => some .window | 0x0013 => some .tSwitch | 0x0014 => some .periodic | 0x0015 => some .jump
  | 0x0020 => some .uMin | 0x0021 => some .stepThreshold | 0x0022 => some .blend | 0x0023 => some .maxAge
  | 0x0030 => some .deadband | 0x0040 => some .plungerTolerance | 0x0041 => some .tapTolerance | 0x0042 => some .speed
  | 0x0043 => some .margin | 0x0044 => some .coast | 0x0045 => some .stepLimit | 0x0046 => some .interStep
  | 0x0047 => some .moveInterval | 0x0050 => some .uStart | 0x0051 => some .tStart | 0x0052 => some .uEnd
  | 0x0053 => some .tEnd | 0x0054 => some .tHold | 0x0055 => some .tMax | 0x0060 => some .debounce
  | 0x0061 => some .polarity | 0x0062 => some .assignment | 0x0063 => some .discrepancy
  | _ => none

/-- The id of a setting (R199). -/
def SettingId.code : SettingId → Nat
  | .gain => 0x0001 | .nominal => 0x0002 | .injectorLevel => 0x0010 | .tSettle => 0x0011 | .window => 0x0012
  | .tSwitch => 0x0013 | .periodic => 0x0014 | .jump => 0x0015 | .uMin => 0x0020 | .stepThreshold => 0x0021 | .blend => 0x0022
  | .maxAge => 0x0023 | .deadband => 0x0030 | .plungerTolerance => 0x0040 | .tapTolerance => 0x0041 | .speed => 0x0042
  | .margin => 0x0043 | .coast => 0x0044 | .stepLimit => 0x0045 | .interStep => 0x0046 | .moveInterval => 0x0047
  | .uStart => 0x0050 | .tStart => 0x0051 | .uEnd => 0x0052 | .tEnd => 0x0053 | .tHold => 0x0054 | .tMax => 0x0055
  | .debounce => 0x0060 | .polarity => 0x0061 | .assignment => 0x0062 | .discrepancy => 0x0063

/-- The number of scope indices of a setting (R199): 12 per channel, 4 per coil, 24 per input, 1 for a global setting. -/
def SettingId.scope : SettingId → Nat
  | .gain => 12
  | .injectorLevel => 4 | .plungerTolerance => 4 | .tapTolerance => 4 | .speed => 4 | .margin => 4 | .coast => 4
  | .stepLimit => 4 | .interStep => 4 | .moveInterval => 4
  | .debounce => 24 | .polarity => 24 | .assignment => 24
  | .nominal => 1 | .tSettle => 1 | .window => 1 | .tSwitch => 1 | .periodic => 1 | .jump => 1 | .uMin => 1
  | .stepThreshold => 1 | .blend => 1 | .maxAge => 1 | .deadband => 1 | .uStart => 1 | .tStart => 1 | .uEnd => 1
  | .tEnd => 1 | .tHold => 1 | .tMax => 1 | .discrepancy => 1

/-- A structural setting, refused in RUN (R200). -/
def SettingId.structural : SettingId → Bool
  | .nominal => true | .assignment => true
  | _ => false

/-- The limits of a numeric setting (R199); the upper limit of U_end follows the U_start in force (R157). None for an enumerated
setting. -/
def SettingId.limits (id : SettingId) (s : State) : Option (Nat × Nat) :=
  match id with
  | .gain => some (1, 65535) | .injectorLevel => some (1, 8) | .tSettle => some (2, 50) | .window => some (2, 32)
  | .tSwitch => some (0, 60) | .periodic => some (0, 3600) | .jump => some (10, 2000) | .uMin => some (5, 1000)
  | .stepThreshold => some (10, 5000) | .blend => some (0, 4) | .maxAge => some (60, 86400) | .deadband => some (10, 2000)
  | .plungerTolerance => some (1, 400) | .tapTolerance => some (0, 3) | .speed => some (1, 500) | .margin => some (0, 200)
  | .coast => some (0, 10000) | .stepLimit => some (1, 60) | .interStep => some (0, 60) | .moveInterval => some (0, 600)
  | .uStart => some (500, 9000) | .tStart => some (20, 5000) | .uEnd => some (100, s.settings.uStart - 100)
  | .tEnd => some (20, 5000) | .tHold => some (0, 600) | .tMax => some (60, 86400) | .discrepancy => some (20, 10000)
  | .nominal => none | .debounce => none | .polarity => none | .assignment => none

/-- A value outside the values of an enumerated setting (R176, R199). -/
def SettingId.badEnum (id : SettingId) (v : Int) : Bool :=
  match id with
  | .nominal => !(v == 50 || v == 60)
  | .debounce => !(v == 10 || v == 100)
  | .polarity => !(v == 0 || v == 1)
  | .assignment => decide (v < 0) || (Assignment.ofCodes (v.toNat / 256) (v.toNat % 256)).isNone
  | _ => false

/-- A numeric value brought within its setting's range (R176); of the periodic interval the values 1..9 go to 10 (R47). -/
def SettingId.clampValue (id : SettingId) (v : Int) (s : State) : Nat :=
  match id.limits s with
  | none => v.toNat
  | some (lo, hi) =>
    if id = .periodic ∧ 1 ≤ v ∧ v < 10 then 10 else (clampInt lo hi v).toNat

/-- An item of a vector by its number, `d` when there is none. -/
def itemOf {α : Type} {n : Nat} (v : Vector α n) (i : Nat) (d : α) : α := v.toList.getD i d

/-- A vector with item `i` written; unchanged when there is none. -/
def withItem {α : Type} {n : Nat} (v : Vector α n) (i : Nat) (a : α) : Vector α n := v.setIfInBounds i a

/-- The value in force of a setting for a scope index (R176). -/
def readSetting (id : SettingId) (i : Nat) (s : State) : Nat :=
  let t := s.settings
  match id with
  | .gain => itemOf t.gain i 0
  | .nominal => t.nominal
  | .injectorLevel => itemOf t.injectorLevel i 0
  | .tSettle => t.tSettle
  | .window => t.window
  | .tSwitch => t.tSwitch
  | .periodic => t.periodic
  | .jump => t.jump
  | .uMin => t.uMin
  | .stepThreshold => t.stepThreshold
  | .blend => t.blend
  | .maxAge => t.maxAge
  | .deadband => t.deadband
  | .plungerTolerance => itemOf t.plungerTolerance i 0
  | .tapTolerance => itemOf t.tapTolerance i 0
  | .speed => itemOf t.speed i 0
  | .margin => itemOf t.margin i 0
  | .coast => itemOf t.coast i 0
  | .stepLimit => itemOf t.stepLimit i 0
  | .interStep => itemOf t.interStep i 0
  | .moveInterval => itemOf t.moveInterval i 0
  | .uStart => t.uStart
  | .tStart => t.tStart
  | .uEnd => t.uEnd
  | .tEnd => t.tEnd
  | .tHold => t.tHold
  | .tMax => t.tMax
  | .debounce => (itemOf s.contacts.input i ContactInput.reset).debounce
  | .polarity => bit (itemOf s.contacts.input i ContactInput.reset).inverted
  | .assignment => (itemOf s.contacts.input i ContactInput.reset).assignment.settingValue
  | .discrepancy => t.discrepancy

/-- The settings with a numeric setting's value written for a scope index (R199); the settings of the input records stand there. -/
def Settings.write (id : SettingId) (i v : Nat) (t : Settings) : Settings :=
  match id with
  | .gain => { t with gain := withItem t.gain i v }
  | .nominal => { t with nominal := v }
  | .injectorLevel => { t with injectorLevel := withItem t.injectorLevel i v }
  | .tSettle => { t with tSettle := v }
  | .window => { t with window := v }
  | .tSwitch => { t with tSwitch := v }
  | .periodic => { t with periodic := v }
  | .jump => { t with jump := v }
  | .uMin => { t with uMin := v }
  | .stepThreshold => { t with stepThreshold := v }
  | .blend => { t with blend := v }
  | .maxAge => { t with maxAge := v }
  | .deadband => { t with deadband := v }
  | .plungerTolerance => { t with plungerTolerance := withItem t.plungerTolerance i v }
  | .tapTolerance => { t with tapTolerance := withItem t.tapTolerance i v }
  | .speed => { t with speed := withItem t.speed i v }
  | .margin => { t with margin := withItem t.margin i v }
  | .coast => { t with coast := withItem t.coast i v }
  | .stepLimit => { t with stepLimit := withItem t.stepLimit i v }
  | .interStep => { t with interStep := withItem t.interStep i v }
  | .moveInterval => { t with moveInterval := withItem t.moveInterval i v }
  | .uStart => { t with uStart := v, uEnd := if v - 100 < t.uEnd then v - 100 else t.uEnd }
  | .tStart => { t with tStart := v }
  | .uEnd => { t with uEnd := v }
  | .tEnd => { t with tEnd := v }
  | .tHold => { t with tHold := v }
  | .tMax => { t with tMax := v }
  | .discrepancy => { t with discrepancy := v }
  | .debounce => t
  | .polarity => t
  | .assignment => t

/-- Write a numeric setting, and nothing else. -/
def writeSetting (id : SettingId) (i v : Nat) (s : State) : State := { s with settings := s.settings.write id i v }

/-! ## What a write does at once -/

/-- The tracker when FREQ_HELD is set (R14): the event is raised when the condition was clear. -/
def setFreqHeld (s : State) : State :=
  if s.tracker.held then s
  else raiseEvent .freqHeld (s.tracker.source.map Fin.val) [val 1] { s with tracker := { s.tracker with held := true } }

/-- The sample interval count of a frequency (R15): round(384000000/f_used). -/
def sampleCount (f : Nat) : Nat := (roundDiv 384000000 f).toNat

/-- A changed nominal frequency (R16). -/
def changeNominal (hz : Nat) (s : State) : State :=
  let s := writeSetting .nominal 0 hz s
  setFreqHeld
    { s with tracker := { s.tracker with fUsed := hz * 1000, count := sampleCount (hz * 1000), history := [], period := none } }

/-- The level of coil `c`'s injector is written (R37): both the configured and the effective level. -/
def writeInjectorLevel (c : Coil) (v : Nat) (s : State) : State := setEffective c v (writeSetting .injectorLevel c v s)

/-- The periodic interval is written (R47): the periodic timer of every group in use restarts with it, or stops when it is 0. -/
def writePeriodic (v : Nat) (s : State) : State :=
  let s := writeSetting .periodic 0 v s
  forEach s.topo.groups restartPeriodic s

/-- The maximum age is written (R77): every estimate's age is compared with it at once. The STALE events of several groups come in
increasing group number, an order the spec leaves open (log entry 49, DESIGN CHOICE). -/
def writeMaximumAge (v : Nat) (s : State) : State :=
  let s := writeSetting .maxAge 0 v s
  forEach s.topo.groups testStale s

/-- A stop tolerance of coil `c` is written (R128): on a change a running drive tests its stop condition at once. -/
def writeTolerance (tap : Bool) (c : Coil) (v : Nat) (s : State) : State :=
  let id : SettingId := if tap then .tapTolerance else .plungerTolerance
  if readSetting id c s = v then s else testStop c (writeSetting id c v s)

/-- Another input already holds an assignment (R163). -/
def heldElsewhere (s : State) (i : Nat) (a : Assignment) : Bool :=
  !(a == .nothing) && (List.finRange 24).any (fun j => !(j.val == i) && (s.contacts.input[j]).assignment == a)

/-- An accepted value of a setting takes its effect (R176 and the setting's own rule). -/
def applySetting (id : SettingId) (i v : Nat) (s : State) : State :=
  match id with
  | .nominal => if s.settings.nominal = v then s else changeNominal v s
  | .injectorLevel => if h : i < 4 then writeInjectorLevel ⟨i, h⟩ v s else s
  | .periodic => writePeriodic v s
  | .maxAge => writeMaximumAge v s
  | .plungerTolerance => if h : i < 4 then writeTolerance false ⟨i, h⟩ v s else s
  | .tapTolerance => if h : i < 4 then writeTolerance true ⟨i, h⟩ v s else s
  | .debounce => if h : i < 24 then s.setInput ⟨i, h⟩ { s.contacts.input[i] with debounce := v } else s
  | .polarity => if h : i < 24 then writePolarity ⟨i, h⟩ (v == 1) s else s
  | .assignment =>
    if h : i < 24 then
      match Assignment.ofCodes (v / 256) (v % 256) with
      | some a => writeAssignment ⟨i, h⟩ a s
      | none => s
    else s
  | _ => writeSetting id i v s

/-- The status of a SET of a known setting within its scope (R176), by the order of its table. -/
def settingStatus (id : SettingId) (i : Nat) (v : Int) (s : State) : Status :=
  if id.badEnum v then .badValue
  else if s.runState = .starting then .notReady .starting
  else if id.structural && s.runState == .run then .wrongState
  else if id = .assignment ∧ (Assignment.ofCodes (v.toNat / 256) (v.toNat % 256)).any (heldElsewhere s i) = true then .badValue
  else
    match id.limits s with
    | none => .ok
    | some _ => if (id.clampValue v s : Int) = v then .ok else .clamped

end Sys2Proof.Machine
end

