-- ==== Sys2Proof/Machine/Acquisition.lean ====
section
/-! DEFINITION. The acquisition unit and the frequency tracker (chapter 1), and the commands CYCLE_BOUNDARY, ZERO_CROSSING and
PERIOD_TIMEOUT. -/

namespace Sys2Proof.Machine

/-! ## The phasors of a closing cycle (R4 to R7) -/

/-- The samples of a channel in a command's operand; a channel without samples counts as all zero. -/
def channelSamples (samples : List (List Int)) (ch : Channel) : List Int := samples.getD ch []

/-- The engineering phasor of a channel before its limits (R4, R5). -/
def engineeringExact (s : State) (samples : List (List Int)) (ch : Channel) : Phasor :=
  scaleExact s.settings.gain[ch] (codePhasor (channelSamples samples ch))

/-- The engineering phasors of the twelve channels (R5). -/
def engineering (s : State) (samples : List (List Int)) : Vector Phasor 12 :=
  Vector.ofFn (fun ch => (engineeringExact s samples ch).saturated)

/-- The tracking source of a closing cycle (R11): the lowest section whose UREF magnitude is at least 2000. -/
def chooseSource (eng : Vector Phasor 12) : Option Section :=
  four.find? (fun q => decide (2000 ≤ (eng[urefChannel q]).magnitude))

/-- A phasor referred to the source's UREF before its limits (R6); unchanged without a source. -/
def referred (eng : Vector Phasor 12) (source : Option Section) (p : Phasor) : Phasor :=
  match source with
  | none => p
  | some q => Phasor.referExact eng[urefChannel q] p

/-- The SATURATED flag of a channel for the closing cycle (R7). -/
def saturatedFlag (s : State) (samples : List (List Int)) (eng : Vector Phasor 12) (source : Option Section) (ch : Channel) :
    Bool :=
  (channelSamples samples ch).any fullScale
    || !((engineeringExact s samples ch).saturated == engineeringExact s samples ch)
    || !((referred eng source eng[ch]).saturated == referred eng source eng[ch])

/-! ## The frequency tracker (R11 to R15) -/

/-- The tracker takes the source chosen for the closing cycle (R11, R14). -/
def takeSource (source : Option Section) (s : State) : State :=
  let s :=
    if s.tracker.source = source then s
    else { s with tracker := { s.tracker with source := source, history := [], period := none } }
  if source.isNone then setFreqHeld s else s

/-- The FREQ_HELD condition is cleared (R14): the event is raised when it was set. -/
def clearFreqHeld (s : State) : State :=
  if s.tracker.held then
    raiseEvent .freqHeld (s.tracker.source.map Fin.val) [val 0] { s with tracker := { s.tracker with held := false } }
  else s

/-- The frequency in mHz of a period of `n` counts (R12). -/
def periodFrequency (n : Nat) : Nat := (roundDiv 24576000000 n).toNat

/-- The longest valid period at a nominal frequency (R12), in counts. -/
def longestPeriod (nominal : Nat) : Nat := (roundDiv 24576000000 (nominal * 1000 - 5000)).toNat

/-- A completed period of `n` counts is valid (R12): it did not run past the longest valid period, and its frequency lies within
the nominal ± 5000 mHz. -/
def validPeriod (nominal n : Nat) : Bool :=
  decide (0 < n) && decide (n ≤ longestPeriod nominal) && decide (nominal * 1000 - 5000 ≤ periodFrequency n)
    && decide (periodFrequency n ≤ nominal * 1000 + 5000)

/-- The history with a frequency appended, the newest four kept (R13). -/
def appendPeriod (f : Nat) (h : List Nat) : List Nat := (if h.length < 4 then h else h.drop 1) ++ [f]

/-- A valid period is entered (R13 to R15): four frequencies set f_used and the count, and clear FREQ_HELD. -/
def enterPeriod (f : Nat) (s : State) : State :=
  let h := appendPeriod f s.tracker.history
  let s := { s with tracker := { s.tracker with history := h } }
  if h.length = 4 then
    let used := (roundDiv (sumNat h : Nat) 4).toNat
    clearFreqHeld { s with tracker := { s.tracker with fUsed := used, count := sampleCount used } }
  else s

/-- An invalid period is declared (R12, R14): the history is emptied and FREQ_HELD is set. -/
def invalidPeriod (s : State) : State := setFreqHeld { s with tracker := { s.tracker with history := [] } }

/-- A positive-going zero crossing of the source's UREF, `n` counts after the one before it (R12). Without a source no period is
timed; the first crossing only starts a period. -/
def crossing (n : Nat) (s : State) : State :=
  if s.tracker.source.isNone then s
  else
    let s := match s.tracker.period with
      | none => s
      | some _ => if validPeriod s.settings.nominal n then enterPeriod (periodFrequency n) s else invalidPeriod s
    { s with tracker := { s.tracker with period := some 0 } }

/-! ## The cycle boundary (R3) -/

/-- The acquisition unit's work at a cycle boundary (R3): the phasors are computed, scaled, referred and published with their
flags, the tracker chooses its source, and the offered sample interval count is latched. -/
def acquire (samples : List (List Int)) (s : State) : State :=
  let eng := engineering s samples
  let source := chooseSource eng
  let phasors := Vector.ofFn (fun ch : Channel => (referred eng source eng[ch]).saturated)
  let flags := Vector.ofFn (fun ch : Channel => saturatedFlag s samples eng source ch)
  let s := takeSource source s
  { s with acq := ⟨phasors, flags, s.tracker.count⟩ }

/-- What the blocks do with the published phasors: the estimator's natural displacement, then the sequencer and the supervisor in
the order the command gives (R41 leaves it open). In STARTING no block does (R195). Several groups at one boundary are taken in
increasing number by each block; R190 lets two cycle ends come in either order (log entry 42, DESIGN CHOICE). -/
def boundaryWork (supervisorFirst : Bool) (s : State) : State :=
  if s.runState = .starting then s
  else
    let s := forEach s.topo.groups quietWork s
    if supervisorFirst then forEach s.topo.groups sequencerWork (supervisorWork s)
    else supervisorWork (forEach s.topo.groups sequencerWork s)

/-- CYCLE_BOUNDARY (R3, R41, R54, R144). -/
def execCycleBoundary (samples : List (List Int)) (supervisorFirst : Bool) (s : State) : Host.Outcome State Fault Refusal :=
  .next (boundaryWork supervisorFirst (acquire samples s))

/-- ZERO_CROSSING (R12). -/
def execZeroCrossing (counts : Nat) (s : State) : Host.Outcome State Fault Refusal := .next (crossing counts s)

/-- PERIOD_TIMEOUT (R12): the period in progress, if any, is declared invalid, and no period is in progress. -/
def execPeriodTimeout (s : State) : Host.Outcome State Fault Refusal :=
  .next (if s.tracker.period.isNone then s
    else invalidPeriod { s with tracker := { s.tracker with period := none } })

end Sys2Proof.Machine
end

