-- ==== Sys2Proof/Machine/Reports.lean ====
section
/-! DEFINITION. The byte layouts of the frames, records and reply results (R171, R181, R185). -/

namespace Sys2Proof.Machine

/-! ## Fields -/

/-- A number in an unsigned field of `n` bytes; a number beyond the field is a free value (log entry 1). -/
def unsigned (n v : Nat) : List Byte := if v < 256 ^ n then be n v else be n (Config.overflowField n v)

/-- A number in a signed field of `n` bytes, two's complement; a number beyond the field is a free value (log entry 1). -/
def signed (n : Nat) (v : Int) : List Byte :=
  if -(2 ^ (8 * n - 1) : Nat) ≤ v ∧ v < (2 ^ (8 * n - 1) : Nat) then be n (v % (256 ^ n : Nat)).toNat
  else be n (Config.overflowField n v)

/-- A current (R181): a sum above 65535 is carried as 65535. -/
def current (v : Nat) : List Byte := be 2 (min 65535 v)

/-- A current that may be absent, carried as zeros. -/
def optCurrent (v : Option Nat) : List Byte := current (v.getD 0)

/-- A part time (R181). -/
def partTime (t : Nat) : List Byte := be 6 t

/-- A code field that carries 0xFF for absence (R181). -/
def optCode (c : Option Nat) : List Byte := be 1 (c.getD 0xFF)

/-- A flag byte or code byte. -/
def byte1 (v : Nat) : List Byte := be 1 v

/-- A phasor's two signed components (R181). -/
def phasorField (p : Phasor) : List Byte := signed 2 p.re ++ signed 2 p.im

/-- A phasor that may be absent, carried as zeros. -/
def optPhasor (p : Option Phasor) : List Byte := phasorField (p.getD ⟨0, 0⟩)

/-- `n` bytes of 0xFF: a result field for an item whose index was out of range (R181). -/
def blank (n : Nat) : List Byte := List.replicate n 0xFF

/-! ## Frames and the check (R171, R181) -/

/-- One data bit taken into the check register (R171). -/
def checkBit (reg : BitVec 16) (b : Bool) : BitVec 16 :=
  if reg.msb != b then (reg <<< 1) ^^^ 0x8005 else reg <<< 1

/-- One byte taken into the check register, most significant bit first (R171). -/
def checkByte (reg : BitVec 16) (b : Byte) : BitVec 16 :=
  [7, 6, 5, 4, 3, 2, 1, 0].foldl (fun r i => checkBit r (b.getLsbD i)) reg

/-- The check of a run of bytes (R171). -/
def frameCheck (bytes : List Byte) : BitVec 16 := bytes.foldl checkByte 0xFFFF

/-- The frame of a body (R181): start, length, body, check. -/
def frame (body : List Byte) : List Byte :=
  let counted := be 2 body.length ++ body
  0xC3 :: counted ++ be 2 (frameCheck counted).toNat

/-- The status details that follow a status byte (R173): reason and subject of NOT_READY, index of TABLE_INVALID. -/
def Status.details : Status → List Byte
  | .notReady .starting => byte1 1 ++ byte1 0xFF
  | .notReady (.coilWithoutTable c) => byte1 2 ++ byte1 c
  | .tableInvalid i => byte1 i
  | _ => []

/-- The kind of a reply (R173): request kind + 0x80, or 0xFF for a kind of 0x7F or above. -/
def replyKind (kind : Nat) : Nat := if kind < 0x7F then kind + 0x80 else 0xFF

/-- The reply frame of a request (R173, R181). -/
def replyFrame (kind tag : Nat) (st : Status) (result : List Byte) : List Byte :=
  frame (byte1 (replyKind kind) ++ byte1 tag ++ byte1 st.code ++ st.details ++ result)

/-! ## Notices (R181, R183) -/

/-- The values of a notice, four of them, absent ones as zeros. Each stands in its 32 bits as it is, a raw target or I_T above
65535 too (log entry 44, DESIGN CHOICE). -/
def valueFields : Nat → List (Option Int) → List Byte
  | 0, _ => []
  | n + 1, [] => signed 4 0 ++ valueFields n []
  | n + 1, v :: vs => signed 4 (v.getD 0) ++ valueFields n vs

/-- A notice entry, 27 bytes (R181). -/
def noticeEntry (n : Notice) : List Byte :=
  byte1 n.kind.code ++ byte1 (bit n.overrun) ++ partTime n.time ++ be 2 (n.subject.getD 0xFFFF)
    ++ byte1 (packBits (n.values.map Option.isSome)) ++ valueFields 4 n.values

/-- The notice frame of a queue (R180, R189): kind 0x7F, tag 0, the count and the notices. -/
def noticeFrameOf (q : List Notice) : List Byte :=
  frame (byte1 0x7F ++ byte1 0 ++ byte1 q.length ++ q.flatMap noticeEntry)

/-! ## Records -/

/-- A history record, 60 bytes (R181). -/
def historyEntry (r : HistoryRecord) : List Byte :=
  be 4 r.number ++ partTime r.start ++ partTime r.finish ++ byte1 r.group ++ byte1 (sectionMask r.sections) ++ byte1 r.lead
    ++ byte1 r.level ++ byte1 r.outcome.code ++ optCode (r.abortState.map CycleState.code) ++ be 2 r.quality.bits
    ++ byte1 (packBits [r.uA.isSome, r.uB.isSome, r.result.isSome, r.after.isSome, r.detuning.isSome])
    ++ optPhasor r.uA ++ optPhasor r.iA ++ optPhasor r.uB ++ optPhasor r.iB ++ current r.coilCurrent
    ++ optCurrent (r.result.map (fun x => x.currents.iC)) ++ optCurrent (r.result.map (fun x => x.currents.iG))
    ++ optPhasor (r.result.map CycleResult.uNat)
    ++ byte1 ((r.after.map (fun x => x.1.code)).getD 0)
    ++ optCurrent (r.after.bind (fun x => x.2.map Currents.iC)) ++ optCurrent (r.after.bind (fun x => x.2.map Currents.iG))
    ++ signed 2 (r.detuning.getD 0) ++ be 2 r.fUsed

/-- An episode record, 32 bytes (R181). -/
def episodeEntry (e : EpisodeRecord) : List Byte :=
  be 2 e.number ++ byte1 (sectionMask e.sections) ++ partTime e.start ++ partTime (e.endTime.getD 0) ++ be 2 e.peak
    ++ byte1 e.peakSection ++ byte1 e.outcome.code
    ++ byte1 (packBits (e.endTime.isSome :: e.coils.toList.map Option.isSome ++ [e.iC.isSome, e.detuning.isSome, e.restrike]))
    ++ e.coils.toList.flatMap optCurrent ++ optCurrent e.iC ++ signed 2 (e.detuning.getD 0)

/-! ## Read replies -/

/-- The result of READ_FAULTS (R156, R181). -/
def faultsResult (s : State) : List Byte :=
  byte1 s.sup.log.length ++ s.sup.log.flatMap episodeEntry
    ++ four.flatMap (fun q =>
      be 2 (((openEpisode s q).map EpisodeRecord.number).getD 0) ++ byte1 (bit (s.sup.watch[q]).start.isSome))

/-- The records READ_HISTORY answers with (R191): from the first number on, oldest first, at most the count. -/
def historyFrom (first count : Nat) (s : State) : List HistoryRecord :=
  (s.ring.records.filter (fun r => decide (first ≤ r.number))).take (min 14 count)

/-- The result of READ_HISTORY (R191). -/
def historyResult (first count : Nat) (s : State) : List Byte :=
  let rs := historyFrom first count s
  byte1 rs.length ++ rs.flatMap historyEntry

/-- The size of the estimate reply result (R181). -/
def estimateResultSize : Nat := 66

/-- The result of READ_ESTIMATE for group `g` (R82, R117, R181). -/
def estimateResult (g : Group) (s : State) : List Byte :=
  let i := s.topo.group[g]
  let e := s.est[g]
  let r := s.planner.record[g]
  let present := groupCurrent s g
  byte1 g ++ byte1 (sectionMask (s.topo.sections g)) ++ byte1 i.members.length ++ optCode (i.lead.map Fin.val)
    ++ byte1 (packBits [i.held, frozen s g, episodeCondition s g, e.stale, !(r.range == .clear), r.range == .high])
    ++ unsigned 4 ((s.sup.hold[g]).getD 0)
    ++ byte1 e.state.code ++ optCode (e.returnState.map EstState.code)
    ++ be 2 (packBits [e.value.isSome, e.candidate.isSome, e.lastAccepted.isSome, e.lastCoilCurrent.isSome, e.value.isSome,
        e.lastCycle.isSome, r.time.isSome, r.target.isSome, r.fixed.isSome, r.error.isSome])
    ++ optCurrent e.iC ++ optCurrent e.iG
    ++ optCurrent (e.candidate.map Currents.iC) ++ optCurrent (e.candidate.map Currents.iG)
    ++ byte1 e.disagreement ++ unsigned 4 ((e.age.map ageSeconds).getD 0) ++ partTime (e.lastAccepted.getD 0)
    ++ optCurrent e.lastCoilCurrent ++ current present
    ++ signed 2 ((e.value.map (fun v => detuning v present)).getD 0) ++ be 2 ((e.value.map damping).getD 0)
    ++ be 2 ((e.value.map (fun v => residual v present)).getD 0)
    ++ byte1 ((e.lastCycle.map (fun x => x.1.code)).getD 0) ++ be 2 ((e.lastCycle.map (fun x => x.2.bits)).getD 0)
    ++ byte1 r.outcome.code ++ partTime (r.time.getD 0)
    ++ optCurrent r.raw ++ optCurrent r.target ++ optCurrent r.fixed ++ optCurrent r.low ++ optCurrent r.high
    ++ signed 2 (clampInt (-32768) 32767 (r.error.getD 0)) ++ signed 2 s.planner.setpoint[g]

/-- A target field and its origin (R181). -/
def targetField (t : Option Target) : List Byte :=
  be 2 ((t.map Target.pos).getD 0) ++ optCode (t.map (fun t => t.origin.code))

/-- Coil `c`'s entry in the allocation of its group's last PLANNED planning (R117, log entry 20). -/
def allocationOf (s : State) (c : Coil) : Option AllocEntry :=
  (s.planner.record[s.topo.groupOfCoil c]).lastPlanned.find? (fun a => a.coil == c)

/-- The size of the coil reply result (R181). -/
def coilResultSize : Nat := 53

/-- The result of READ_COIL (R117, R141, R181). The bit "held by COIL_PARK" is set while an active input is assigned COIL_PARK to
the coil, whatever its mode, ABSENT too: R23 and R24 leave that open (log entry 40, DESIGN CHOICE). An absent origin of the last move
result is sent as 0xFF, for which R181 states no code (log entry 51, DESIGN CHOICE). -/
def coilResult (c : Coil) (s : State) : List Byte :=
  let r := s.topo.coil[c]
  let j := s.seq.injector[c]
  let d := s.drive[c]
  let t := s.planner.table[c]
  let range := (tableRange t).getD (0, 0)
  let limits := (tableLimits t).getD (0, 0)
  let a := allocationOf s c
  byte1 c
    ++ byte1 (packBits [!(r.mode == .absent), r.type == .tapped, r.injector, anyActive s (.coilPark c), j.available, d.feedback,
        !t.isEmpty])
    ++ byte1 r.sect ++ byte1 r.mode.code ++ byte1 j.effective ++ byte1 s.settings.injectorLevel[c]
    ++ byte1 t.length ++ be 2 range.1 ++ be 2 range.2 ++ be 2 limits.1 ++ be 2 limits.2
    ++ byte1 (packBits [(presentCurrent s c).isSome, d.position.isSome, (d.last.bind MoveResult.target).isSome, a.isSome])
    ++ optCurrent (presentCurrent s c) ++ be 2 (d.position.getD 0)
    ++ byte1 d.state.code ++ optCode (d.stopReason.map StopReason.code) ++ optCode (d.phase.map StepPhase.code)
    ++ targetField d.pending ++ targetField d.running ++ unsigned 4 (d.interval.getD 0)
    ++ optCode (d.last.map (fun l => l.result.code)) ++ optCode (d.last.bind (fun l => l.reason.map FaultReason.code))
    ++ be 2 ((d.last.bind MoveResult.final).getD 0) ++ be 2 ((d.last.bind MoveResult.target).getD 0)
    ++ optCode (d.last.bind (fun l => l.origin.map Origin.code)) ++ partTime ((d.last.map MoveResult.time).getD 0)
    ++ be 2 ((a.map AllocEntry.share).getD 0) ++ be 2 ((a.map AllocEntry.pos).getD 0) ++ be 2 ((a.map AllocEntry.cur).getD 0)
    ++ byte1 ((a.map (fun a => a.handed.code)).getD 0)

/-- The first eight bytes of the feeder reply result (R181). -/
def feederEntryField (n : FeederNo) (s : State) : List Byte :=
  let f := s.reg.feeder[n]
  byte1 n ++ byte1 (packBits [f.defined, f.contribution.isSome, (s.reg.list[s.topo.groupOf[f.sect]]).overflow])
    ++ byte1 f.sect ++ byte1 f.state.code ++ byte1 f.updates ++ optCurrent f.contribution ++ optCode (f.source.map Fin.val)

/-- A transition list entry, 16 bytes (R181). -/
def listEntryField (e : ListEntry) : List Byte :=
  byte1 e.feeder ++ byte1 e.sect ++ byte1 e.old.code ++ byte1 e.new.code ++ partTime e.time ++ byte1 e.estBefore.code
    ++ optCurrent e.iCBefore ++ byte1 e.adjustment.code ++ be 2 e.adjustment.applied

/-- The result of FEEDER_READ (R99, R181). -/
def feederResult (n : FeederNo) (s : State) : List Byte :=
  let g := s.topo.groupOf[(s.reg.feeder[n]).sect]
  let l := s.reg.list[g]
  feederEntryField n s ++ byte1 g ++ byte1 l.entries.length ++ l.entries.flatMap listEntryField

/-- An input's entry in READ_INPUTS (R167, R181). -/
def inputEntry (r : ContactInput) : List Byte :=
  let level := match r.level with
    | some false => 0
    | some true => 1
    | none => 2
  byte1 (bit r.raw + 2 * level + 8 * bit (r.active == some true) + 16 * bit r.timer.isSome + 32 * bit (r.debounce == 100)
      + 64 * bit r.inverted)
    ++ byte1 r.assignment.kindCode ++ optCode r.assignment.item

/-- The result of READ_INPUTS (R167, R181). -/
def inputsResult (s : State) : List Byte :=
  s.contacts.input.toList.flatMap inputEntry
    ++ (List.finRange 3).flatMap (fun k =>
      byte1 (s.contacts.indication[k]).form.code ++ byte1 (bit (s.contacts.indication[k]).timer.isSome)
        ++ byte1 (s.topo.coupler[k]).code)

/-- The remaining time of the hold timer in ms (R185): 0 when it does not run. -/
def HoldTimer.remaining : HoldTimer → Nat
  | .running n => n
  | .stopped => 0
  | .expired => 0

/-- The result of EVENTS_READ (R185). -/
def eventsResult (s : State) : List Byte :=
  be 2 s.events.latched.toNat ++ be 2 s.events.mask.toNat ++ byte1 s.events.queue.length ++ byte1 s.events.trigger
    ++ be 2 s.events.holdTime ++ be 2 s.events.hold.remaining ++ byte1 (bit s.events.overrun)

end Sys2Proof.Machine
end

