-- ==== Sys2Proof/Machine/Link.lean ====
section
/-! DEFINITION. The station link (chapter 10) without its receiver: slots, replies, the transmitter, and the commands at the
link that are no requests. -/

namespace Sys2Proof.Machine

/-! ## The transmitter (R180) -/

/-- A slot is ANSWERED (R172). -/
def Slot.isAnswered : Slot → Bool
  | .answered _ => true
  | .waiting _ _ _ => false

/-- A reply waits for the transmitter (R180). -/
def Link.replyWaiting (l : Link) : Bool := l.slots.any Slot.isAnswered

/-- Both slots hold requests (R172). -/
def Link.full (l : Link) : Bool := decide (Config.slotCount ≤ l.slots.length)

/-- The transmitter begins a notice frame (R180, R189): it takes the whole queue. -/
def beginNotice (s : State) : State :=
  { s with
    link := { s.link with tx := .notice (noticeFrameOf s.events.queue) }
    events := s.events.taken }

/-- The transmitter chooses its next frame when it is free (R180): the reply taken first, else a ready notice frame. -/
def transmitNext (s : State) : State :=
  match s.link.tx with
  | .free =>
    if s.link.replyWaiting then { s with link := { s.link with tx := .reply } }
    else if s.events.frameReady then beginNotice s
    else s
  | .reply => s
  | .notice _ => s

/-- The slots without the oldest ANSWERED one (R172, R180). -/
def dropAnswered : List Slot → List Slot
  | [] => []
  | .answered _ :: rest => rest
  | .waiting k t p :: rest => .waiting k t p :: dropAnswered rest

/-- The last byte of the frame being sent leaves the transmitter (R180): a reply frees its slot, and the next frame is chosen. -/
def endTransmit (s : State) : State :=
  match s.link.tx with
  | .free => s
  | .reply => transmitNext { s with link := { s.link with tx := .free, slots := dropAnswered s.link.slots } }
  | .notice _ => transmitNext { s with link := { s.link with tx := .free } }

/-! ## Serving a request (R172, R173) -/

/-- The slot takes its reply and the transmitter is offered it (R173). -/
def answer (kind tag : Nat) (st : Status) (result : List Byte) (s : State) : State :=
  transmitNext { s with link := { s.link with slots := s.link.slots ++ [.answered (replyFrame kind tag st result)] } }

/-- A request is taken whole (R172, R173): with both slots held it is discarded; otherwise the owner's rule gave `st`, the
effect is made when the request was taken, and the reply carries the result of the state then in force. -/
def serve (kind tag : Nat) (st : Status) (effect : State → State) (result : State → List Byte) (s : State) : State :=
  if s.link.full then s
  else
    let s' := if st.taken then effect s else s
    answer kind tag st (if st.hasResult then result s' else []) s'

/-- A request that only reads, or that its status alone answers. -/
def unchanged (s : State) : State := s

/-- NOT_READY in STARTING, and otherwise the status of the checks that follow (R173). -/
def whenReady (s : State) (st : Status) : Status := if s.runState = .starting then .notReady .starting else st

/-! ## The receiver's resets (R170 to R172) -/

/-- The receiver in HUNT with nothing held (R170). -/
def Receiver.hunting : Receiver := ⟨.hunt, [], 0, none⟩

/-- The partial frame is discarded and the receiver returns to HUNT (R170). -/
def discardFrame (s : State) : State := { s with link := { s.link with rx := Receiver.hunting } }

/-- The receiver is inside a frame: LENGTH, BODY or CHECK. -/
def RxState.inFrame : RxState → Bool
  | .hunt => false
  | .length => true | .body => true | .check => true

/-- FRAME_DISCARD (R171): the judgement of a length or of a check fails; it acts where one is being received. -/
def execFrameDiscard (s : State) : Host.Outcome State Fault Refusal :=
  .next (match s.link.rx.state with
    | .length => discardFrame s
    | .check => discardFrame s
    | .hunt => s
    | .body => s)

/-- INPUT_BUFFER_FULL (R172): a frame completes while both slots hold requests, and is discarded without a reply. -/
def execInputBufferFull (s : State) : Host.Outcome State Fault Refusal :=
  .next (if s.link.rx.state = .check ∧ s.link.full = true then discardFrame s else s)

/-- INTER_BYTE_GAP (R170): the gap timer does not act in HUNT. -/
def execInterByteGap (s : State) : Host.Outcome State Fault Refusal :=
  .next (if s.link.rx.state.inFrame then discardFrame s else s)

/-- MISSING_STOP_BIT (R170): the byte is not taken as data; in HUNT it is ignored. -/
def execMissingStopBit (s : State) : Host.Outcome State Fault Refusal :=
  .next (if s.link.rx.state.inFrame then discardFrame s else s)

/-! ## The transmitter's commands -/

/-- TRANSMIT_END (R180). -/
def execTransmitEnd (s : State) : Host.Outcome State Fault Refusal := .next (endTransmit s)

/-- A notice frame may begin: the transmitter is free, no reply waits and a frame is ready (R180, R188). -/
def noticeMayBegin (s : State) : Bool := s.link.tx == .free && !s.link.replyWaiting && s.events.frameReady

/-- NOTICE_FRAME (R189). -/
def execNoticeFrame (s : State) : Host.Outcome State Fault Refusal := .next (if noticeMayBegin s then beginNotice s else s)

/-- NOTICE_HOLD_EXPIRY (R188): a running hold timer expires, which leaves a frame ready. -/
def execNoticeHoldExpiry (s : State) : Host.Outcome State Fault Refusal :=
  .next (match s.events.hold with
    | .running _ => { s with events := { s.events with hold := .expired } }
    | .stopped => s
    | .expired => s)

/-- UNKNOWN_KIND (R173): a request whose kind is outside the catalogue changes nothing and is answered. -/
def serveUnknownKind (tag kind : Nat) (s : State) : State := serve kind tag .unknownKind unchanged (fun _ => []) s

/-- UNKNOWN_KIND (R173). -/
def execUnknownKind (tag kind : Nat) (s : State) : Host.Outcome State Fault Refusal := .next (serveUnknownKind tag kind s)

end Sys2Proof.Machine
end

