-- ==== Sys2Proof/Machine/DriveRequests.lean ====
section
/-! DEFINITION. COIL_MOVE, COIL_STOP, DRIVE_CLEAR and READ_COIL (R122, R125, R139, R141). -/

namespace Sys2Proof.Machine

/-! ## COIL_MOVE (R122) -/

/-- The status of COIL_MOVE for a coil (R122), the first matching case after the coil number deciding. -/
def coilMoveCase (c : Coil) (p : Nat) (s : State) : Status :=
  if s.runState = .starting then .notReady .starting
  else if !(s.topo.coil[c]).mode.member then .wrongState
  else if (s.topo.coil[c]).mode = .auto then .wrongMode
  else if (s.planner.table[c]).isEmpty then .noTable
  else if (s.drive[c]).state = .fault then .faultActive
  else if clampToTable s.planner.table[c] p = p then .ok
  else .clamped

/-- The status of COIL_MOVE (R122). -/
def coilMoveStatus (c p : Nat) (s : State) : Status := if h : c < 4 then coilMoveCase ⟨c, h⟩ p s else .badValue

/-- The effect of an accepted COIL_MOVE (R122): the target, within the table's range, is taken by R123 with origin MANUAL. -/
def coilMoveEffect (c p : Nat) (s : State) : State :=
  if h : c < 4 then newTarget ⟨c, h⟩ ⟨clampToTable s.planner.table[c] p, .manual⟩ s else s

/-- The target that a COIL_MOVE reply reports: the one used, or the one named when the request is refused (R122, R181). -/
def moveTarget (c p : Nat) (s : State) : Nat :=
  if h : c < 4 then (if (coilMoveStatus c p s).taken then clampToTable s.planner.table[c] p else p) else p

/-- The result of COIL_MOVE (R122, R181), `used` being the target to report. -/
def coilMoveResult (c used : Nat) (s : State) : List Byte :=
  byte1 c ++ be 2 used ++ (if h : c < 4 then
      let d := s.drive[c]
      byte1 d.state.code ++ targetField d.pending ++ targetField d.running
    else blank 7)

/-- A COIL_MOVE request (R122). -/
def serveCoilMove (tag c p : Nat) (s : State) : State :=
  serve 0x13 tag (coilMoveStatus c p s) (coilMoveEffect c p) (coilMoveResult c (moveTarget c p s)) s

/-- COIL_MOVE (R122). -/
def execCoilMove (tag c p : Nat) (s : State) : Host.Outcome State Fault Refusal := .next (serveCoilMove tag c p s)

/-! ## COIL_STOP (R125) -/

/-- The status of COIL_STOP (R125). -/
def coilStopStatus (c : Nat) (s : State) : Status :=
  if h : c < 4 then
    whenReady s
      (if (s.topo.coil[c]).mode = .absent then .wrongState
       else if (s.drive[c]).state = .fault then .faultActive
       else .ok)
  else .badValue

/-- The effect of an accepted COIL_STOP (R125): a pending target is cleared and a running move stops as STOPPED. -/
def coilStopEffect (c : Nat) (s : State) : State :=
  if h : c < 4 then stopIfRunning ⟨c, h⟩ .stopped (s.setDrive ⟨c, h⟩ (s.drive[c]).withoutPending) else s

/-- The result of COIL_STOP and DRIVE_CLEAR: the coil and its drive's state (R181). -/
def driveStateResult (c : Nat) (s : State) : List Byte :=
  byte1 c ++ (if h : c < 4 then byte1 (s.drive[c]).state.code else blank 1)

/-- A COIL_STOP request (R125). -/
def serveCoilStop (tag c : Nat) (s : State) : State :=
  serve 0x14 tag (coilStopStatus c s) (coilStopEffect c) (driveStateResult c) s

/-- COIL_STOP (R125). -/
def execCoilStop (tag c : Nat) (s : State) : Host.Outcome State Fault Refusal := .next (serveCoilStop tag c s)

/-! ## DRIVE_CLEAR (R139) -/

/-- The status of DRIVE_CLEAR (R139). -/
def driveClearStatus (c : Nat) (s : State) : Status :=
  if h : c < 4 then
    whenReady s
      (if (s.drive[c]).state = .fault ∧ (s.topo.coil[c]).mode.member = true ∧ (s.drive[c]).feedback = false then .faultActive
       else .ok)
  else .badValue

/-- The effect of an accepted DRIVE_CLEAR (R139): a drive in FAULT goes to IDLE, and the group of a member coil is planned
(R108; log entry 21). -/
def driveClearEffect (c : Nat) (s : State) : State :=
  if h : c < 4 then
    let k : Coil := ⟨c, h⟩
    if (s.drive[k]).state = .fault then
      let s := s.setDrive k { s.drive[k] with state := .idle }
      if (s.topo.coil[k]).mode.member then planGroup (s.topo.groupOfCoil k) s else s
    else s
  else s

/-- A DRIVE_CLEAR request (R139). -/
def serveDriveClear (tag c : Nat) (s : State) : State :=
  serve 0x15 tag (driveClearStatus c s) (driveClearEffect c) (driveStateResult c) s

/-- DRIVE_CLEAR (R139). -/
def execDriveClear (tag c : Nat) (s : State) : Host.Outcome State Fault Refusal := .next (serveDriveClear tag c s)

/-! ## READ_COIL (R141) -/

/-- The status of READ_COIL (R141, R173). -/
def readCoilStatus (c : Nat) (s : State) : Status := if c < 4 then whenReady s .ok else .badValue

/-- The result of READ_COIL for a coil number (R141, R181). -/
def readCoilResult (c : Nat) (s : State) : List Byte :=
  if h : c < 4 then coilResult ⟨c, h⟩ s else byte1 c ++ blank (coilResultSize - 1)

/-- A READ_COIL request (R141). -/
def serveReadCoil (tag c : Nat) (s : State) : State :=
  serve 0x21 tag (readCoilStatus c s) unchanged (readCoilResult c) s

/-- READ_COIL (R141). -/
def execReadCoil (tag c : Nat) (s : State) : Host.Outcome State Fault Refusal := .next (serveReadCoil tag c s)

end Sys2Proof.Machine
end

