-- ==== Sys2Proof/Machine/EventRequests.lean ====
section
/-! DEFINITION. EVENTS_READ, EVENTS_CLEAR, NOTICE_MASK and NOTICE_CONFIG (R185, R186, R188). -/

namespace Sys2Proof.Machine

/-- An EVENTS_READ request (R185). -/
def serveEventsRead (tag : Nat) (s : State) : State := serve 0x28 tag (whenReady s .ok) unchanged eventsResult s

/-- EVENTS_READ (R185). -/
def execEventsRead (tag : Nat) (s : State) : Host.Outcome State Fault Refusal := .next (serveEventsRead tag s)

/-- The effect of an accepted EVENTS_CLEAR (R185): the flags named in the kind set are cleared. -/
def eventsClearEffect (kinds : Nat) (s : State) : State :=
  { s with events := { s.events with latched := s.events.latched &&& ~~~(BitVec.ofNat 16 kinds) } }

/-- An EVENTS_CLEAR request (R185). -/
def serveEventsClear (tag kinds : Nat) (s : State) : State :=
  serve 0x29 tag (whenReady s .ok) (eventsClearEffect kinds) (fun s => be 2 s.events.latched.toNat) s

/-- EVENTS_CLEAR (R185). -/
def execEventsClear (tag kinds : Nat) (s : State) : Host.Outcome State Fault Refusal := .next (serveEventsClear tag kinds s)

/-- The effect of an accepted NOTICE_MASK (R186): the mask set is written whole. -/
def noticeMaskEffect (mask : Nat) (s : State) : State :=
  { s with events := { s.events with mask := BitVec.ofNat 16 mask } }

/-- A NOTICE_MASK request (R186). -/
def serveNoticeMask (tag mask : Nat) (s : State) : State :=
  serve 0x2A tag (whenReady s .ok) (noticeMaskEffect mask) (fun s => be 2 s.events.mask.toNat) s

/-- NOTICE_MASK (R186). -/
def execNoticeMask (tag mask : Nat) (s : State) : Host.Outcome State Fault Refusal := .next (serveNoticeMask tag mask s)

/-- A trigger level of the four (R188). -/
def triggerLevel (t : Nat) : Bool := t == 1 || t == 4 || t == 8 || t == 16

/-- A hold time brought within 10..5000 ms (R188). -/
def clampHold (h : Nat) : Nat := if h < 10 then 10 else if 5000 < h then 5000 else h

/-- The status of NOTICE_CONFIG (R188): NOT_READY comes before the value checks. -/
def noticeConfigStatus (t h : Nat) (s : State) : Status :=
  whenReady s (if triggerLevel t then (if clampHold h = h then .ok else .clamped) else .badValue)

/-- The effect of an accepted NOTICE_CONFIG (R188): a running hold timer keeps its deadline. -/
def noticeConfigEffect (t h : Nat) (s : State) : State :=
  { s with events := { s.events with trigger := t, holdTime := clampHold h } }

/-- A NOTICE_CONFIG request (R188). -/
def serveNoticeConfig (tag t h : Nat) (s : State) : State :=
  serve 0x2B tag (noticeConfigStatus t h s) (noticeConfigEffect t h)
    (fun s => byte1 s.events.trigger ++ be 2 s.events.holdTime) s

/-- NOTICE_CONFIG (R188). -/
def execNoticeConfig (tag t h : Nat) (s : State) : Host.Outcome State Fault Refusal := .next (serveNoticeConfig tag t h s)

end Sys2Proof.Machine
end

