-- ==== Sys2Proof/Machine/FeederRequests.lean ====
section
/-! DEFINITION. FEEDER_DEFINE, FEEDER_SET and FEEDER_READ (R87 to R89, R99). -/

namespace Sys2Proof.Machine

/-! ## FEEDER_DEFINE (R87, R88) -/

/-- What the contribution field of a definition asks for (R87). -/
inductive Contribution where
  | keep
  | value (c : Nat)
  | unknown
  deriving DecidableEq, Repr

/-- The meaning a code and a field give (R87, R174). -/
def Contribution.ofCodes (meaning c : Nat) : Option Contribution :=
  match meaning with
  | 0 => some .keep | 1 => some (.value c) | 2 => some .unknown | _ => none

/-- A contribution as a definition leaves it. -/
def Contribution.apply (x : Contribution) (old : Option Nat) : Option Nat :=
  match x with
  | .keep => old
  | .value c => some c
  | .unknown => none

/-- The entry with its contribution written by a definition (R87): a written contribution sets the update count to 0. -/
def Feeder.contribute (x : Contribution) (f : Feeder) : Feeder :=
  match x with
  | .keep => f
  | .value c => { f with contribution := some c, updates := 0 }
  | .unknown => { f with contribution := none, updates := 0 }

/-- The status of FEEDER_DEFINE (R87). -/
def feederDefineStatus (n define sect meaning c : Nat) (s : State) : Status :=
  if !(decide (n < 48) && decide (define < 2)) then .badValue
  else if define = 1 ∧ (!decide (sect < 4) || (Contribution.ofCodes meaning c).isNone) = true then .badValue
  else whenReady s .ok

/-- The feeder leaves its section (R88): IN or OUT makes a transition to UNKNOWN; UNKNOWN makes none. -/
def leaveSection (n : FeederNo) (s : State) : State := takeTransition n .unknown s

/-- Feeder `n` is defined on section `q` (R87, R88). A definition that writes the values in force changes nothing (log
entry 22). -/
def defineFeeder (n : FeederNo) (q : Section) (x : Contribution) (s : State) : State :=
  let f := s.reg.feeder[n]
  if !f.defined then
    takeIndication n (s.setFeeder n ({ f with defined := true, sect := q, state := .unknown }.contribute x))
  else if f.sect = q then
    if x.apply f.contribution = f.contribution then s else s.setFeeder n (f.contribute x)
  else
    let s := leaveSection n s
    takeIndication n (s.setFeeder n ({ s.reg.feeder[n] with sect := q, state := .unknown }.contribute x))

/-- Feeder `n` is undefined (R88): its contribution becomes unknown and its update count 0; section and source are kept. -/
def undefineFeeder (n : FeederNo) (s : State) : State :=
  if (s.reg.feeder[n]).defined then
    let s := leaveSection n s
    s.setFeeder n { s.reg.feeder[n] with defined := false, state := .unknown, contribution := none, updates := 0 }
  else s

/-- The effect of an accepted FEEDER_DEFINE (R87, R88). -/
def feederDefineEffect (n define sect meaning c : Nat) (s : State) : State :=
  if h : n < 48 then
    if define = 1 then
      if hq : sect < 4 then
        match Contribution.ofCodes meaning c with
        | some x => defineFeeder ⟨n, h⟩ ⟨sect, hq⟩ x s
        | none => s
      else s
    else undefineFeeder ⟨n, h⟩ s
  else s

/-- The result of FEEDER_DEFINE: the entry as it stands (R87, R181). -/
def feederDefineResult (n : Nat) (s : State) : List Byte :=
  if h : n < 48 then feederEntryField ⟨n, h⟩ s else byte1 n ++ blank 7

/-- A FEEDER_DEFINE request (R87). -/
def serveFeederDefine (tag n define sect meaning c : Nat) (s : State) : State :=
  serve 0x18 tag (feederDefineStatus n define sect meaning c s) (feederDefineEffect n define sect meaning c)
    (feederDefineResult n) s

/-- FEEDER_DEFINE (R87, R88). -/
def execFeederDefine (tag n define sect meaning c : Nat) (s : State) : Host.Outcome State Fault Refusal :=
  .next (serveFeederDefine tag n define sect meaning c s)

/-! ## FEEDER_SET (R89) -/

/-- The status of FEEDER_SET (R89). -/
def feederSetStatus (n st : Nat) (s : State) : Status :=
  if h : n < 48 then
    if (FeederState.ofCode st).isNone then .badValue
    else
      whenReady s
        (if !(s.reg.feeder[n]).defined then .wrongState
         else if (s.reg.feeder[n]).source.isSome then .assigned
         else .ok)
  else .badValue

/-- The effect of an accepted FEEDER_SET (R89): a state other than the one in force is one transition. -/
def feederSetEffect (n st : Nat) (s : State) : State :=
  if h : n < 48 then
    match FeederState.ofCode st with
    | some x => takeTransition ⟨n, h⟩ x s
    | none => s
  else s

/-- The result of FEEDER_SET: the feeder and its state (R89, R181). -/
def feederSetResult (n : Nat) (s : State) : List Byte :=
  byte1 n ++ (if h : n < 48 then byte1 (s.reg.feeder[n]).state.code else blank 1)

/-- A FEEDER_SET request (R89). -/
def serveFeederSet (tag n st : Nat) (s : State) : State :=
  serve 0x19 tag (feederSetStatus n st s) (feederSetEffect n st) (feederSetResult n) s

/-- FEEDER_SET (R89). -/
def execFeederSet (tag n st : Nat) (s : State) : Host.Outcome State Fault Refusal := .next (serveFeederSet tag n st s)

/-! ## FEEDER_READ (R99) -/

/-- The status of FEEDER_READ (R99). -/
def feederReadStatus (n : Nat) (s : State) : Status := if n < 48 then whenReady s .ok else .badValue

/-- The result of FEEDER_READ for a feeder number (R99, R181). -/
def feederReadResult (n : Nat) (s : State) : List Byte := if h : n < 48 then feederResult ⟨n, h⟩ s else byte1 n ++ blank 9

/-- A FEEDER_READ request (R99). -/
def serveFeederRead (tag n : Nat) (s : State) : State :=
  serve 0x1A tag (feederReadStatus n s) unchanged (feederReadResult n) s

/-- FEEDER_READ (R99). -/
def execFeederRead (tag n : Nat) (s : State) : Host.Outcome State Fault Refusal := .next (serveFeederRead tag n s)

end Sys2Proof.Machine
end

