-- ==== Sys2Proof/Machine/PlannerRequests.lean ====
section
/-! DEFINITION. SETPOINT and the table load window: TABLE_OPEN, TABLE_POINTS, TABLE_COMMIT (R104, R106, R177 to R179). -/

namespace Sys2Proof.Machine

/-! ## SETPOINT (R106) -/

/-- A setpoint brought within −200..+300 per mille (R106). -/
def clampSetpoint (v : Int) : Int := clampInt (-200) 300 v

/-- The status of SETPOINT (R106). -/
def setpointStatus (q : Nat) (v : Int) (s : State) : Status :=
  if q < 4 then whenReady s (if clampSetpoint v = v then .ok else .clamped) else .badValue

/-- The effect of an accepted SETPOINT (R106): a changed setpoint of a group's lowest section plans the group. -/
def setpointEffect (q : Nat) (v : Int) (s : State) : State :=
  if h : q < 4 then
    let k : Section := ⟨q, h⟩
    if s.planner.setpoint[k] = clampSetpoint v then s
    else
      let s := { s with planner := { s.planner with setpoint := s.planner.setpoint.set k (clampSetpoint v) } }
      if s.topo.inUse k then planGroup k s else s
  else s

/-- The result of SETPOINT: the section and its setpoint in force (R106, R181). -/
def setpointResult (q : Nat) (s : State) : List Byte :=
  byte1 q ++ (if h : q < 4 then signed 2 s.planner.setpoint[q] else blank 2)

/-- A SETPOINT request (R106). -/
def serveSetpoint (tag q : Nat) (v : Int) (s : State) : State :=
  serve 0x1C tag (setpointStatus q v s) (setpointEffect q v) (setpointResult q) s

/-- SETPOINT (R106). -/
def execSetpoint (tag q : Nat) (v : Int) (s : State) : Host.Outcome State Fault Refusal := .next (serveSetpoint tag q v s)

/-! ## The load window (R177 to R179) -/

/-- The window as a reply reports it: coil and n 0xFF, and next index 0, when no load is open (R181). -/
def windowField (l : Option TableLoad) : List Byte :=
  match l with
  | none => blank 2 ++ byte1 0
  | some l => byte1 l.coil ++ byte1 l.count ++ byte1 l.points.length

/-- The status of TABLE_OPEN (R177). -/
def tableOpenStatus (c n : Nat) (s : State) : Status :=
  if c < 4 ∧ 2 ≤ n ∧ n ≤ 32 then whenReady s .ok else .badValue

/-- The effect of an accepted TABLE_OPEN (R177). -/
def tableOpenEffect (c n : Nat) (s : State) : State :=
  if h : c < 4 then { s with link := { s.link with load := some ⟨⟨c, h⟩, n, []⟩ } } else s

/-- A TABLE_OPEN request (R177). Its result is the window in force after it, also where the coil is out of range: the fields are
the window's and not those of the item named (log entry 48, DEDUCED). -/
def serveTableOpen (tag c n : Nat) (s : State) : State :=
  serve 0x30 tag (tableOpenStatus c n s) (tableOpenEffect c n) (fun s => windowField s.link.load) s

/-- TABLE_OPEN (R177). -/
def execTableOpen (tag c n : Nat) (s : State) : Host.Outcome State Fault Refusal := .next (serveTableOpen tag c n s)

/-- The status of TABLE_POINTS (R178). -/
def tablePointsStatus (points : List (Nat × Nat)) (s : State) : Status :=
  if 1 ≤ points.length ∧ points.length ≤ 16 then
    whenReady s
      (match s.link.load with
       | none => .notOpen
       | some l => if l.count < l.points.length + points.length then .full else .ok)
  else .badValue

/-- The effect of an accepted TABLE_POINTS (R178): the points are written after those held, in the order carried. -/
def tablePointsEffect (points : List (Nat × Nat)) (s : State) : State :=
  { s with
    link := { s.link with
      load := s.link.load.map (fun l => { l with points := l.points ++ points.map (fun p => ⟨p.1, p.2⟩) }) } }

/-- A TABLE_POINTS request (R178). -/
def serveTablePoints (tag : Nat) (points : List (Nat × Nat)) (s : State) : State :=
  serve 0x31 tag (tablePointsStatus points s) (tablePointsEffect points) (fun s => windowField s.link.load) s

/-- TABLE_POINTS (R178). -/
def execTablePoints (tag : Nat) (points : List (Nat × Nat)) (s : State) : Host.Outcome State Fault Refusal :=
  .next (serveTablePoints tag points s)

/-- The index of the first bad point of a load, by the type in its coil's record (R101, R179). -/
def loadBad (s : State) (l : TableLoad) : Option Nat := l.firstBad (s.topo.coil[l.coil]).type

/-- The status of TABLE_COMMIT (R179), the first matching case deciding. -/
def tableCommitStatus (s : State) : Status :=
  whenReady s
    (match s.link.load with
     | none => .notOpen
     | some l =>
       if s.runState = .run ∧ ¬ (s.topo.coil[l.coil]).mode = .parked then .wrongState
       else match loadBad s l with
         | some i => .tableInvalid i
         | none => .ok)

/-- The swap of a passing commit (R104): the table is replaced whole, the load is closed, the new range goes to the drive, and a
member's group is planned. -/
def swapTable (l : TableLoad) (s : State) : State :=
  let s := { s with
    planner := { s.planner with table := s.planner.table.set l.coil l.points }
    link := { s.link with load := none } }
  let s := newRange l.coil s
  if (s.topo.coil[l.coil]).mode.member then planGroup (s.topo.groupOfCoil l.coil) s else s

/-- The effect of an accepted TABLE_COMMIT (R179). -/
def tableCommitEffect (s : State) : State :=
  match s.link.load with
  | none => s
  | some l => swapTable l s

/-- The first bad point field of a commit's result: 0xFF when no point was bad (R179, R181). -/
def badPointField : Status → List Byte
  | .tableInvalid i => byte1 i
  | _ => byte1 0xFF

/-- A TABLE_COMMIT request (R179): the result shows the window as it stood before a passing commit closed it. -/
def serveTableCommit (tag : Nat) (s : State) : State :=
  serve 0x32 tag (tableCommitStatus s) tableCommitEffect
    (fun _ => windowField s.link.load ++ badPointField (tableCommitStatus s)) s

/-- TABLE_COMMIT (R179). -/
def execTableCommit (tag : Nat) (s : State) : Host.Outcome State Fault Refusal := .next (serveTableCommit tag s)

end Sys2Proof.Machine
end

