-- ==== Sys2Proof/Machine/ReadRequests.lean ====
section
/-! DEFINITION. MEASURE and the reads of groups, inputs, history and faults (R44, R82, R156, R167, R191). -/

namespace Sys2Proof.Machine

/-! ## MEASURE (R44) -/

/-- The status of a request that names a section and has no other check (R44, R82). -/
def sectionStatus (q : Nat) (s : State) : Status := if q < 4 then whenReady s .ok else .badValue

/-- The effect of an accepted MEASURE (R44): the flag of the section's group is set. -/
def measureEffect (q : Nat) (s : State) : State := if h : q < 4 then setFlag s.topo.groupOf[q] s else s

/-- The result of MEASURE: group, machine state, flag and lock, failing start conditions (R44, R181). -/
def measureResult (q : Nat) (s : State) : List Byte :=
  if h : q < 4 then
    let g := s.topo.groupOf[q]
    let m := s.seq.machine[g]
    byte1 g ++ byte1 m.state.code ++ byte1 (packBits [m.flag, m.lock]) ++ byte1 (packBits (failingConditions s g))
  else blank 4

/-- A MEASURE request (R44). -/
def serveMeasure (tag q : Nat) (s : State) : State :=
  serve 0x1D tag (sectionStatus q s) (measureEffect q) (measureResult q) s

/-- MEASURE (R44). -/
def execMeasure (tag q : Nat) (s : State) : Host.Outcome State Fault Refusal := .next (serveMeasure tag q s)

/-! ## READ_ESTIMATE (R82, R117) -/

/-- The result of READ_ESTIMATE for a section number (R82, R181). -/
def readEstimateResult (q : Nat) (s : State) : List Byte :=
  if h : q < 4 then estimateResult s.topo.groupOf[q] s else blank estimateResultSize

/-- A READ_ESTIMATE request (R82). -/
def serveReadEstimate (tag q : Nat) (s : State) : State :=
  serve 0x20 tag (sectionStatus q s) unchanged (readEstimateResult q) s

/-- READ_ESTIMATE (R82, R117). -/
def execReadEstimate (tag q : Nat) (s : State) : Host.Outcome State Fault Refusal := .next (serveReadEstimate tag q s)

/-! ## READ_INPUTS (R167), READ_HISTORY (R191), READ_FAULTS (R156) -/

/-- A READ_INPUTS request (R167). -/
def serveReadInputs (tag : Nat) (s : State) : State := serve 0x22 tag (whenReady s .ok) unchanged inputsResult s

/-- READ_INPUTS (R167). -/
def execReadInputs (tag : Nat) (s : State) : Host.Outcome State Fault Refusal := .next (serveReadInputs tag s)

/-- The status of READ_HISTORY (R191): NOT_READY comes before the count's check. -/
def readHistoryStatus (count : Nat) (s : State) : Status := whenReady s (if count = 0 then .badValue else .ok)

/-- A READ_HISTORY request (R191). -/
def serveReadHistory (tag first count : Nat) (s : State) : State :=
  serve 0x23 tag (readHistoryStatus count s) unchanged (historyResult first count) s

/-- READ_HISTORY (R191). -/
def execReadHistory (tag first count : Nat) (s : State) : Host.Outcome State Fault Refusal :=
  .next (serveReadHistory tag first count s)

/-- A READ_FAULTS request (R156). -/
def serveReadFaults (tag : Nat) (s : State) : State := serve 0x24 tag (whenReady s .ok) unchanged faultsResult s

/-- READ_FAULTS (R156). -/
def execReadFaults (tag : Nat) (s : State) : Host.Outcome State Fault Refusal := .next (serveReadFaults tag s)

end Sys2Proof.Machine
end

