-- ==== Sys2Proof/Machine/RunState.lean ====
section
/-! DEFINITION. The operating-state controller (chapter 12): POWER_ON, RESET_PIN, ENTER_SETUP, RUN, STOP and RESTART. -/

namespace Sys2Proof.Machine

/-! ## Power-on and the reset pin (R169, R195) -/

/-- The rate code of the straps (R169). -/
def rateCode (strap1 strap0 : Bool) : Nat := 2 * bit strap1 + bit strap0

/-- An input at power-on with its raw level as sensed (R160). -/
def ContactInput.poweredOn (i : ContactInput) : ContactInput := { ContactInput.reset with raw := i.raw }

/-- A drive at power-on with its position input as the plant shows it (R142). -/
def Drive.poweredOn (d : Drive) : Drive := { Drive.reset with inputCode := d.inputCode, inputValid := d.inputValid }

/-- Every block takes its power-on state (R195); what the plant shows at the pins stays, and the position inputs are taken as
one report each (R120). -/
def poweredOn (rate : Nat) (s : State) : State :=
  let r := State.reset
  forEach four takeReport
    { r with
      drive := s.drive.map Drive.poweredOn
      contacts := { r.contacts with input := s.contacts.input.map ContactInput.poweredOn }
      link := { r.link with rate := rate }
      pending := s.pending }

/-- POWER_ON (R195). -/
def execPowerOn (strap1 strap0 : Bool) (s : State) : Host.Outcome State Fault Refusal :=
  .next (poweredOn (rateCode strap1 strap0) s)

/-- RESET_PIN (R195): it acts as power-on whenever it is asserted. -/
def execResetPin (strap1 strap0 : Bool) (s : State) : Host.Outcome State Fault Refusal :=
  .next (poweredOn (rateCode strap1 strap0) s)

/-! ## The entry into SETUP (R195) -/

/-- The first debounce of all 24 inputs has completed (R161, R195). -/
def debouncedAll (s : State) : Bool := s.contacts.input.toList.all (fun i => i.level.isSome)

/-- The part leaves STARTING for SETUP (R195): the periodic timer of every group in use is started (R47). -/
def enterSetup (s : State) : State :=
  forEach s.topo.groups restartPeriodic
    { s with runState := .setup, contacts := { s.contacts with startTimer := none } }

/-- ENTER_SETUP (R195). -/
def execEnterSetup (s : State) : Host.Outcome State Fault Refusal :=
  .next (if s.runState = .starting ∧ debouncedAll s = true then enterSetup s else s)

/-! ## RUN (R196) -/

/-- The lowest-numbered MANUAL or AUTO coil without a committed table (R196). -/
def untabledCoil (s : State) : Option Coil :=
  four.find? (fun c => (s.topo.coil[c]).mode.member && (s.planner.table[c]).isEmpty)

/-- The status of RUN (R196). -/
def runStatus (s : State) : Status :=
  match s.runState with
  | .starting => .notReady .starting
  | .run => .ok
  | .setup =>
    match untabledCoil s with
    | some c => .notReady (.coilWithoutTable c)
    | none => .ok

/-- The effect of an accepted RUN (R196): from SETUP the part enters RUN and every group in use is planned, in increasing number:
R108 does not order these plannings (log entry 45, DESIGN CHOICE). -/
def runEffect (s : State) : State :=
  match s.runState with
  | .setup => forEach s.topo.groups planGroup { s with runState := .run }
  | .starting => s
  | .run => s

/-- The result of RUN, STOP and RESTART: the run state after the request (R196 to R198). -/
def runStateResult (s : State) : List Byte := byte1 s.runState.code

/-- A RUN request (R196). -/
def serveRun (tag : Nat) (s : State) : State := serve 0x38 tag (runStatus s) runEffect runStateResult s

/-- RUN (R196). -/
def execRun (tag : Nat) (s : State) : Host.Outcome State Fault Refusal := .next (serveRun tag s)

/-! ## STOP (R197) -/

/-- The part leaves RUN for SETUP (R52, R197): cycles in flight end as ABORTED_STOP, and the drives drop what is AUTO (R136).
The aborts come before the drives, and the drives in increasing coil number; R184 leaves both orders of the events open (log
entry 49, DESIGN CHOICE). -/
def leaveRun (s : State) : State :=
  forEach four (dropOrigin .auto) (abortAll .abortedStop { s with runState := .setup })

/-- The effect of an accepted STOP (R197): in SETUP nothing. -/
def stopEffect (s : State) : State :=
  match s.runState with
  | .run => leaveRun s
  | .starting => s
  | .setup => s

/-- A STOP request (R197). -/
def serveStop (tag : Nat) (s : State) : State := serve 0x39 tag (whenReady s .ok) stopEffect runStateResult s

/-- STOP (R197). -/
def execStop (tag : Nat) (s : State) : Host.Outcome State Fault Refusal := .next (serveStop tag s)

/-! ## RESTART (R198) -/

/-- An injector off (R38): the level output shows the effective level. -/
def Injector.off (j : Injector) : Injector := { j with enable := false, phase180 := false, level := j.effective }

/-- The sequencer's restart (R56): machines in use at rest with their periodic timers restarted, injectors off. -/
def restartSequencer (s : State) : State :=
  forEach s.topo.groups restartPeriodic
    { s with seq := { s.seq with machine := Vector.replicate 4 CycleMachine.rest, injector := s.seq.injector.map Injector.off } }

/-- An estimate's restart (R85); the boundaries since an injector was switched off are counted on (R54). -/
def Estimate.restarted (e : Estimate) : Estimate := { Estimate.reset with sinceOff := e.sinceOff }

/-- A drive's restart (R143): FAULT stays; a move ends at once as INTERRUPTED and starts the interval timer; every other drive
goes to IDLE. -/
def restartDrive (c : Coil) (s : State) : State :=
  let d := s.drive[c]
  if d.state = .fault then s
  else
    s.setDrive c
      { d with
        state := .idle
        pending := none
        running := none
        stopReason := none
        phase := none
        stepStart := none
        best := none
        travel := none
        step := none
        delay := none
        coast := none
        raiseOut := false
        lowerOut := false
        interval := if d.state.moving then intervalTimer s c else d.interval
        last := if d.state.moving then
            some ⟨.interrupted, none, d.position, d.running.map Target.pos, d.running.map Target.origin, s.time⟩
          else d.last }

/-- An episode record at a restart (R159): an open one is closed as RESTARTED. -/
def EpisodeRecord.restarted (now : Nat) (e : EpisodeRecord) : EpisodeRecord :=
  if e.isOpen then { e with outcome := .restarted, endTime := some now, persistence := none } else e

/-- The supervisor's restart (R159): dwells, quiet marks and holds stop; pending crossing marks keep their decisions. -/
def restartSupervisor (s : State) : State :=
  { s with
    sup := { s.sup with
      watch := Vector.replicate 4 ⟨none, none, false⟩
      hold := Vector.replicate 4 none
      log := s.sup.log.map (EpisodeRecord.restarted s.time) } }

/-- The blocks' restarts but for the event unit (step 2 of R198): the planner's records and the load (R119), the transition
lists (R100), the frequency history (R18). -/
def restartBlocks (s : State) : State :=
  let s := restartSequencer s
  let s := forEach four restartDrive s
  let s := restartSupervisor { s with est := s.est.map Estimate.restarted }
  { s with
    tracker := { s.tracker with history := [], period := none }
    reg := { s.reg with list := Vector.replicate 4 ⟨[], false⟩ }
    planner := { s.planner with record := Vector.replicate 4 PlanRecord.reset }
    link := { s.link with load := none } }

/-- The effect of an accepted RESTART (R198): the aborts of leaving RUN, the blocks, the event unit (R193), then SETUP. -/
def restartEffect (s : State) : State :=
  let s := if s.runState = .run then abortAll .abortedStop { s with runState := .setup } else s
  let s := restartBlocks s
  { s with events := s.events.restarted, runState := .setup }

/-- A RESTART request (R198). -/
def serveRestart (tag : Nat) (s : State) : State := serve 0x3A tag (whenReady s .ok) restartEffect runStateResult s

/-- RESTART (R198). -/
def execRestart (tag : Nat) (s : State) : Host.Outcome State Fault Refusal := .next (serveRestart tag s)

end Sys2Proof.Machine
end

