-- ==== Sys2Proof/Machine/SettingRequests.lean ====
section
/-! DEFINITION. IDENT, TIME_SET, SET with the settings that have rows of their own, and GET (R175, R176, R199). -/

namespace Sys2Proof.Machine

/-! ## IDENT and TIME_SET (R175) -/

/-- The result of IDENT: family code, part code, design level, run state, rate code, part time (R175, R181). -/
def identResult (s : State) : List Byte :=
  byte1 0x4F ++ byte1 62 ++ byte1 1 ++ byte1 s.runState.code ++ byte1 s.link.rate ++ partTime s.time

/-- IDENT (R175): taken in every run state. -/
def serveIdent (tag : Nat) (s : State) : State := serve 0x01 tag .ok unchanged identResult s

/-- IDENT (R175). -/
def execIdent (tag : Nat) (s : State) : Host.Outcome State Fault Refusal := .next (serveIdent tag s)

/-- The part time counts modulo 2^48 (R194). -/
def timeModulus : Nat := 2 ^ 48

/-- TIME_SET (R175): the 48-bit part time is written; no timer is touched. -/
def serveTimeSet (tag time : Nat) (s : State) : State :=
  serve 0x02 tag (whenReady s .ok) (fun s => { s with time := time % timeModulus }) (fun s => partTime s.time) s

/-- TIME_SET (R175). -/
def execTimeSet (tag time : Nat) (s : State) : Host.Outcome State Fault Refusal := .next (serveTimeSet tag time s)

/-! ## SET (R176) -/

/-- The status of a SET (R176), the cases in the order of its table. -/
def setStatus (id scope : Nat) (v : Int) (s : State) : Status :=
  match SettingId.ofCode id with
  | none => .badValue
  | some k => if scope < k.scope then settingStatus k scope v s else .badValue

/-- The effect of an accepted SET (R176): the value, clamped, is written as the setting's own rule states. -/
def setEffect (id scope : Nat) (v : Int) (s : State) : State :=
  match SettingId.ofCode id with
  | none => s
  | some k => applySetting k scope (k.clampValue v s) s

/-- The value field of a SET or GET reply: the value in force, 0xFF in each byte when the id or the scope index was out of
range (R176, R181). -/
def settingField (id scope : Nat) (s : State) : List Byte :=
  match SettingId.ofCode id with
  | none => blank 4
  | some k => if scope < k.scope then signed 4 (readSetting k scope s) else blank 4

/-- The result of SET and GET (R176, R181). -/
def settingResult (id scope : Nat) (s : State) : List Byte := be 2 id ++ byte1 scope ++ settingField id scope s

/-- A SET request for any id (R176). -/
def serveSet (tag id scope : Nat) (v : Int) (s : State) : State :=
  serve 0x03 tag (setStatus id scope v s) (setEffect id scope v) (settingResult id scope) s

/-- SET of a setting with no row of its own (R176). -/
def execSet (tag id scope : Nat) (v : Int) (s : State) : Host.Outcome State Fault Refusal := .next (serveSet tag id scope v s)

/-- SET of the nominal frequency (R16, R176). -/
def execSetNominalFrequency (tag scope : Nat) (v : Int) (s : State) : Host.Outcome State Fault Refusal :=
  .next (serveSet tag 0x0002 scope v s)

/-- SET of an injector level (R37, R176). -/
def execSetInjectorLevel (tag scope : Nat) (v : Int) (s : State) : Host.Outcome State Fault Refusal :=
  .next (serveSet tag 0x0010 scope v s)

/-- SET of the periodic interval (R47, R176). -/
def execSetPeriodicInterval (tag scope : Nat) (v : Int) (s : State) : Host.Outcome State Fault Refusal :=
  .next (serveSet tag 0x0014 scope v s)

/-- SET of the maximum age (R77, R176). -/
def execSetMaximumAge (tag scope : Nat) (v : Int) (s : State) : Host.Outcome State Fault Refusal :=
  .next (serveSet tag 0x0023 scope v s)

/-- SET of the start threshold (R157, R176). -/
def execSetStartThreshold (tag scope : Nat) (v : Int) (s : State) : Host.Outcome State Fault Refusal :=
  .next (serveSet tag 0x0050 scope v s)

/-- SET of a stop tolerance (R128, R140, R176). -/
def execSetStopTolerance (tag : Nat) (tap : Bool) (scope : Nat) (v : Int) (s : State) : Host.Outcome State Fault Refusal :=
  .next (serveSet tag (if tap then 0x0041 else 0x0040) scope v s)

/-- SET of an input's polarity (R162, R176). -/
def execSetInputPolarity (tag scope : Nat) (v : Int) (s : State) : Host.Outcome State Fault Refusal :=
  .next (serveSet tag 0x0061 scope v s)

/-- SET of an input's assignment (R163, R176). -/
def execSetInputAssignment (tag scope : Nat) (v : Int) (s : State) : Host.Outcome State Fault Refusal :=
  .next (serveSet tag 0x0062 scope v s)

/-! ## GET (R176) -/

/-- The status of a GET (R176). -/
def getStatus (id scope : Nat) (s : State) : Status :=
  match SettingId.ofCode id with
  | none => .badValue
  | some k => if scope < k.scope then whenReady s .ok else .badValue

/-- A GET request (R176). -/
def serveGet (tag id scope : Nat) (s : State) : State :=
  serve 0x04 tag (getStatus id scope s) unchanged (settingResult id scope) s

/-- GET (R176). -/
def execGet (tag id scope : Nat) (s : State) : Host.Outcome State Fault Refusal := .next (serveGet tag id scope s)

end Sys2Proof.Machine
end

