-- ==== Sys2Proof/Machine/TopologyRequests.lean ====
section
/-! DEFINITION. COUPLER_SET, COIL_CONFIG and COIL_MODE (R20, R22, R23). -/

namespace Sys2Proof.Machine

/-! ## COUPLER_SET (R20) -/

/-- Coupler `k` has a contact input assigned (R20, R21). -/
def couplerAssigned (s : State) (k : Coupler) : Bool := anyAssigned s (.couplerClosed k) || anyAssigned s (.couplerOpen k)

/-- The status of COUPLER_SET (R20). -/
def couplerSetStatus (k st : Nat) (s : State) : Status :=
  if h : k < 3 then
    if (CouplerState.ofCode st).isNone then .badValue
    else whenReady s (if couplerAssigned s ⟨k, h⟩ then .assigned else .ok)
  else .badValue

/-- The effect of an accepted COUPLER_SET (R20, R19). -/
def couplerSetEffect (k st : Nat) (s : State) : State :=
  if h : k < 3 then
    match CouplerState.ofCode st with
    | some x => setCoupler ⟨k, h⟩ x s
    | none => s
  else s

/-- The result of COUPLER_SET: the coupler and its state in force. -/
def couplerResult (k : Nat) (s : State) : List Byte :=
  byte1 k ++ (if h : k < 3 then byte1 (s.topo.coupler[k]).code else blank 1)

/-- A COUPLER_SET request (R20). -/
def serveCouplerSet (tag k st : Nat) (s : State) : State :=
  serve 0x10 tag (couplerSetStatus k st s) (couplerSetEffect k st) (couplerResult k) s

/-- COUPLER_SET (R20). -/
def execCouplerSet (tag k st : Nat) (s : State) : Host.Outcome State Fault Refusal := .next (serveCouplerSet tag k st s)

/-! ## COIL_CONFIG (R22) -/

/-- A payload value of COIL_CONFIG lies outside its range (R22); the last three fields are examined for a present coil only. -/
def coilConfigBad (c present type sect injector : Nat) : Bool :=
  !(decide (c < 4) && decide (present < 2))
    || (present == 1 && !((CoilType.ofCode type).isSome && decide (sect < 4) && decide (injector < 2)))

/-- The drive states in which COIL_CONFIG is refused (R22). -/
def DriveState.busy : DriveState → Bool
  | .pending => true | .runningUp => true | .runningDown => true | .stopping => true
  | .idle => false | .fault => false

/-- The status of COIL_CONFIG (R22). -/
def coilConfigStatus (c present type sect injector : Nat) (s : State) : Status :=
  if coilConfigBad c present type sect injector then .badValue
  else
    whenReady s
      (if s.runState = .run then .wrongState
       else if h : c < 4 then (if (s.drive[c]).state.busy then .wrongState else .ok)
       else .badValue)

/-- The mode of a coil that is declared present (R22, R104): an ABSENT one becomes MANUAL, or PARKED while its COIL_PARK input is
active; an AUTO one whose type changes becomes MANUAL. -/
def configuredMode (parked typeChanges : Bool) : CoilMode → CoilMode
  | .absent => if parked then .parked else .manual
  | .auto => if typeChanges then .manual else .auto
  | .parked => .parked
  | .manual => .manual

/-- The record of coil `c` after it is declared present (R22). -/
def presentRecord (s : State) (c : Coil) (type : CoilType) (sect : Section) (injector : Bool) : CoilRecord :=
  let old := s.topo.coil[c]
  ⟨type, sect, injector, configuredMode (anyActive s (.coilPark c)) (!(old.type == type)) old.mode⟩

/-- Coil `c`'s type changes (R104): its table is emptied and a load open for it is discarded. -/
def emptyTable (c : Coil) (s : State) : State :=
  { s with
    planner := { s.planner with table := s.planner.table.set c [] }
    link := { s.link with load := if s.link.load.map TableLoad.coil = some c then none else s.link.load } }

/-- Write coil `c`'s record (R22, R104); the record already in force changes nothing. -/
def configureCoil (c : Coil) (r : CoilRecord) (s : State) : State :=
  let old := s.topo.coil[c]
  if r = old then s
  else
    changeTopology (fun t => { t with coil := t.coil.set c r }) (if r.type = old.type then s else emptyTable c s)

/-- The effect of an accepted COIL_CONFIG (R22). -/
def coilConfigEffect (c present type sect injector : Nat) (s : State) : State :=
  if hc : c < 4 then
    let k : Coil := ⟨c, hc⟩
    if present = 1 then
      match CoilType.ofCode type with
      | none => s
      | some ty => if hq : sect < 4 then configureCoil k (presentRecord s k ty ⟨sect, hq⟩ (injector == 1)) s else s
    else configureCoil k { s.topo.coil[k] with mode := .absent } s
  else s

/-- The result of COIL_CONFIG: the coil's record as it stands (R22, R181). -/
def coilConfigResult (c : Nat) (s : State) : List Byte :=
  byte1 c ++ (if h : c < 4 then
      let r := s.topo.coil[c]
      byte1 (bit (!(r.mode == .absent))) ++ byte1 r.type.code ++ byte1 r.sect ++ byte1 (bit r.injector) ++ byte1 r.mode.code
    else blank 5)

/-- A COIL_CONFIG request (R22). -/
def serveCoilConfig (tag c present type sect injector : Nat) (s : State) : State :=
  serve 0x11 tag (coilConfigStatus c present type sect injector s) (coilConfigEffect c present type sect injector)
    (coilConfigResult c) s

/-- COIL_CONFIG (R22). -/
def execCoilConfig (tag c present type sect injector : Nat) (s : State) : Host.Outcome State Fault Refusal :=
  .next (serveCoilConfig tag c present type sect injector s)

/-! ## COIL_MODE (R23) -/

/-- The status of COIL_MODE for a coil and a mode (R23), the first matching case deciding. -/
def coilModeCase (c : Coil) (m : CoilMode) (s : State) : Status :=
  if (s.topo.coil[c]).mode = .absent then .wrongState
  else if anyActive s (.coilPark c) then .assigned
  else if anyAssigned s (.coilPark c) && m == .parked then .assigned
  else if m == .auto && (s.planner.table[c]).isEmpty then .noTable
  else if m == .manual && s.runState == .run && (s.planner.table[c]).isEmpty then .noTable
  else .ok

/-- The status of COIL_MODE (R23). -/
def coilModeStatus (c m : Nat) (s : State) : Status :=
  if h : c < 4 then
    match CoilMode.ofRequest m with
    | none => .badValue
    | some x => whenReady s (coilModeCase ⟨c, h⟩ x s)
  else .badValue

/-- The effect of an accepted COIL_MODE (R23): the mode in force changes nothing. -/
def coilModeEffect (c m : Nat) (s : State) : State :=
  if h : c < 4 then
    match CoilMode.ofRequest m with
    | none => s
    | some x => if (s.topo.coil[c]).mode = x then s else setMode ⟨c, h⟩ x s
  else s

/-- The result of COIL_MODE: the coil and its mode in force. -/
def coilModeResult (c : Nat) (s : State) : List Byte :=
  byte1 c ++ (if h : c < 4 then byte1 (s.topo.coil[c]).mode.code else blank 1)

/-- A COIL_MODE request (R23). -/
def serveCoilMode (tag c m : Nat) (s : State) : State :=
  serve 0x12 tag (coilModeStatus c m s) (coilModeEffect c m) (coilModeResult c) s

/-- COIL_MODE (R23). -/
def execCoilMode (tag c m : Nat) (s : State) : Host.Outcome State Fault Refusal := .next (serveCoilMode tag c m s)

end Sys2Proof.Machine
end

