-- ==== Sys2Proof/Machine/Receiver.lean ====
section
/-! DEFINITION. The receiver and the dispatcher (R170 to R173): RECEIVED_BYTE. -/

namespace Sys2Proof.Machine

/-! ## The dispatcher (R173) -/

/-- The owner of a request's state takes it (step 3 of R173). A command that is no request leaves the part as it is; the
dispatcher gives none. -/
def serveRequest (i : Instr) (s : State) : State :=
  match i with
  | .ident tag => serveIdent tag s
  | .timeSet tag time => serveTimeSet tag time s
  | .set tag id scope v => serveSet tag id scope v s
  | .setNominalFrequency tag scope v => serveSet tag 0x0002 scope v s
  | .setInjectorLevel tag scope v => serveSet tag 0x0010 scope v s
  | .setPeriodicInterval tag scope v => serveSet tag 0x0014 scope v s
  | .setMaximumAge tag scope v => serveSet tag 0x0023 scope v s
  | .setStartThreshold tag scope v => serveSet tag 0x0050 scope v s
  | .setStopTolerance tag tap scope v => serveSet tag (if tap then 0x0041 else 0x0040) scope v s
  | .setInputPolarity tag scope v => serveSet tag 0x0061 scope v s
  | .setInputAssignment tag scope v => serveSet tag 0x0062 scope v s
  | .get tag id scope => serveGet tag id scope s
  | .couplerSet tag k st => serveCouplerSet tag k st s
  | .coilConfig tag c p t q j => serveCoilConfig tag c p t q j s
  | .coilMode tag c m => serveCoilMode tag c m s
  | .coilMove tag c p => serveCoilMove tag c p s
  | .coilStop tag c => serveCoilStop tag c s
  | .driveClear tag c => serveDriveClear tag c s
  | .feederDefine tag n d q m c => serveFeederDefine tag n d q m c s
  | .feederSet tag n st => serveFeederSet tag n st s
  | .feederRead tag n => serveFeederRead tag n s
  | .setpoint tag q v => serveSetpoint tag q v s
  | .measure tag q => serveMeasure tag q s
  | .readEstimate tag q => serveReadEstimate tag q s
  | .readCoil tag c => serveReadCoil tag c s
  | .readInputs tag => serveReadInputs tag s
  | .readHistory tag first n => serveReadHistory tag first n s
  | .readFaults tag => serveReadFaults tag s
  | .eventsRead tag => serveEventsRead tag s
  | .eventsClear tag k => serveEventsClear tag k s
  | .noticeMask tag k => serveNoticeMask tag k s
  | .noticeConfig tag t h => serveNoticeConfig tag t h s
  | .tableOpen tag c n => serveTableOpen tag c n s
  | .tablePoints tag ps => serveTablePoints tag ps s
  | .tableCommit tag => serveTableCommit tag s
  | .run tag => serveRun tag s
  | .stop tag => serveStop tag s
  | .restart tag => serveRestart tag s
  | _ => s

/-- The dispatcher takes one request (R173): UNKNOWN_KIND, BAD_LENGTH, or the owner's handling. -/
def dispatch (kind tag : Nat) (payload : List Byte) (s : State) : State :=
  match requestOf kind tag payload with
  | .unknownKind => serveUnknownKind tag kind s
  | .badLength => serve kind tag .badLength unchanged (fun _ => []) s
  | .taken i => serveRequest i s

/-- The oldest WAITING slot and the other slots. -/
def takeWaiting : List Slot → Option ((Nat × Nat × List Byte) × List Slot)
  | [] => none
  | .waiting k t p :: rest => some ((k, t, p), rest)
  | .answered f :: rest => (takeWaiting rest).map (fun x => (x.1, .answered f :: x.2))

/-- The dispatcher takes the WAITING requests at once, in order (R173). At most one waits, since each is taken as it
completes. -/
def dispatchWaiting (s : State) : State :=
  match takeWaiting s.link.slots with
  | none => s
  | some ((k, t, p), rest) => dispatch k t p { s with link := { s.link with slots := rest } }

/-- A completed frame with this body is handed to the input buffer (R172): it enters a FREE slot and becomes WAITING; with both
slots held it is discarded. -/
def frameComplete (body : List Byte) (s : State) : State :=
  match body with
  | kind :: tag :: payload =>
    if s.link.full then s
    else
      dispatchWaiting
        { s with link := { s.link with slots := s.link.slots ++ [.waiting kind.toNat tag.toNat payload] } }
  | _ => s

/-! ## The receiver (R170, R171) -/

/-- The receiver inside a frame with these bytes held; the gap to the next byte is timed from here (R170). -/
def receiving (state : RxState) (held : List Byte) (len : Nat) (s : State) : State :=
  { s with link := { s.link with rx := ⟨state, held, len, some 0⟩ } }

/-- The second length byte forms L, which is judged (R171). -/
def judgeLength (high low : Byte) (s : State) : State :=
  let l := beNat [high, low]
  if 2 ≤ l ∧ l ≤ 1024 then receiving .body [high, low] l s else discardFrame s

/-- The second check byte is taken (R171): `held` are the length bytes and the body, then the first check byte. -/
def judgeCheck (held : List Byte) (len : Nat) (b : Byte) (s : State) : State :=
  let counted := held.take (len + 2)
  let received := beNat (held.drop (len + 2) ++ [b])
  let s := discardFrame s
  if received = (frameCheck counted).toNat then frameComplete (counted.drop 2) s else s

/-- A byte in LENGTH (R170): the first is held, the second forms L. -/
def lengthByte (b : Byte) (s : State) : State :=
  match s.link.rx.held with
  | [] => receiving .length [b] 0 s
  | high :: _ => judgeLength high b s

/-- A byte in BODY (R170): the L-th goes on to CHECK. -/
def bodyByte (b : Byte) (s : State) : State :=
  let held := s.link.rx.held ++ [b]
  let len := s.link.rx.len
  receiving (if len + 2 ≤ held.length then .check else .body) held len s

/-- A byte in CHECK (R170): the first is held, the second has the check judged. -/
def checkFieldByte (b : Byte) (s : State) : State :=
  let held := s.link.rx.held
  let len := s.link.rx.len
  if held.length ≤ len + 2 then receiving .check (held ++ [b]) len s else judgeCheck held len b s

/-- The receiver takes one byte (R170). -/
def receive (b : Byte) (s : State) : State :=
  match s.link.rx.state with
  | .hunt => if b = 0xC3 then receiving .length [] 0 s else s
  | .length => lengthByte b s
  | .body => bodyByte b s
  | .check => checkFieldByte b s

/-- RECEIVED_BYTE (R170, R171). -/
def execReceivedByte (b : Byte) (s : State) : Host.Outcome State Fault Refusal := .next (receive b s)

end Sys2Proof.Machine
end

