-- ==== Sys2Proof/Machine/Clock.lean ====
section
/-! DEFINITION. What the part does when no command waits (log entry 4): a row of the table that is due by the part's own state
and timers is taken, and when none is due one millisecond of the timebase passes. -/

namespace Sys2Proof.Machine

/-! ## One millisecond (R194 and the rules of the timers) -/

/-- A running timer one ms on. -/
def ran (t : Timer) : Timer := t.map (· - 1)

/-- A machine's timers one ms on (R45, R47). -/
def CycleMachine.ticked (m : CycleMachine) : CycleMachine := { m with periodic := ran m.periodic, switching := ran m.switching }

/-- An estimate's age one ms on (R77). -/
def Estimate.ticked (e : Estimate) : Estimate := { e with age := e.age.map (· + 1) }

/-- A drive's timers one ms on (R129, R130, R132, R133). -/
def Drive.ticked (d : Drive) : Drive :=
  { d with interval := ran d.interval, travel := ran d.travel, step := ran d.step, delay := ran d.delay, coast := ran d.coast }

/-- A section's dwells one ms on (R144, R149). -/
def SectionWatch.ticked (w : SectionWatch) : SectionWatch :=
  { w with start := w.start.map (fun d => { d with remaining := d.remaining - 1 }), endDwell := ran w.endDwell }

/-- An episode's persistence timer one ms on (R153). -/
def EpisodeRecord.ticked (e : EpisodeRecord) : EpisodeRecord := { e with persistence := ran e.persistence }

/-- An input's debounce timer one ms on (R161). -/
def ContactInput.ticked (i : ContactInput) : ContactInput := { i with timer := ran i.timer }

/-- A coupler's discrepancy timer one ms on (R165). -/
def Indication.ticked (i : Indication) : Indication := { i with timer := ran i.timer }

/-- The hold timer one ms on (R188). -/
def HoldTimer.ticked : HoldTimer → HoldTimer
  | .running n => .running (n - 1)
  | .stopped => .stopped
  | .expired => .expired

/-- One millisecond of the timebase passes: part time counts (R194), and every running timer and age runs on. -/
def tick (s : State) : State :=
  { s with
    time := (s.time + 1) % timeModulus
    tracker := { s.tracker with period := s.tracker.period.map (· + Config.countsPerMs) }
    seq := { s.seq with machine := s.seq.machine.map CycleMachine.ticked }
    est := s.est.map Estimate.ticked
    drive := s.drive.map Drive.ticked
    sup := { s.sup with
      watch := s.sup.watch.map SectionWatch.ticked
      hold := s.sup.hold.map ran
      log := s.sup.log.map EpisodeRecord.ticked }
    contacts :=
      { input := s.contacts.input.map ContactInput.ticked
        indication := s.contacts.indication.map Indication.ticked
        startTimer := ran s.contacts.startTimer }
    link := { s.link with rx := { s.link.rx with gap := s.link.rx.gap.map (· + 1) } }
    events := { s.events with hold := s.events.hold.ticked } }

/-! ## The rows that are due by themselves -/

/-- A running timer has no time left. -/
def ranOut (t : Timer) : Bool := t == some 0

/-- The rows due for the items of a list, in order. -/
def dueOf {α : Type} (xs : List α) (due : α → Bool) (row : α → Instr) : List Instr := (xs.filter due).map row

/-- The rows due at the link and the event unit: the gap timer (R170) and the hold timer (R188). -/
def dueLink (s : State) : List Instr :=
  (if s.link.rx.state.inFrame && decide (Config.byteGapMs < s.link.rx.gap.getD 0) then [.interByteGap] else [])
    ++ (if s.events.hold = .running 0 then [.noticeHoldExpiry] else [])

/-- The rows due at the contact inputs (R161, R162, R165) and at the tracker (R12). -/
def dueInputs (s : State) : List Instr :=
  dueOf (List.finRange 24) (fun i => ranOut (s.contacts.input[i]).timer) .debounceTimerExpiry
    ++ (if ranOut s.contacts.startTimer then [.firstDebounceTimeout] else [])
    ++ (if s.runState = .starting ∧ debouncedAll s = true then [.enterSetup] else [])
    ++ dueOf (List.finRange 3) (fun k => ranOut (s.contacts.indication[k]).timer) .discrepancyTimerExpiry
    ++ (if longestPeriod s.settings.nominal < s.tracker.period.getD 0 then [.periodTimeout] else [])

/-- The rows due at the supervisor (R145, R149, R151, R153). -/
def dueSupervisor (s : State) : List Instr :=
  dueOf four (fun q => (s.sup.watch[q]).start.map StartDwell.remaining == some 0 && (openEpisode s q).isNone) .startDwellExpiry
    ++ dueOf four (fun q => ranOut (s.sup.watch[q]).endDwell) .endDwellExpiry
    ++ dueOf four (fun g => ranOut s.sup.hold[g]) .postFaultHoldExpiry
    ++ dueOf four (fun q => (openEpisode s q).any (fun e => ranOut e.persistence)) .persistenceTimerExpiry

/-- The rows due at the drives (R129, R130, R132, R133). -/
def dueDrives (s : State) : List Instr :=
  dueOf four (fun c => ranOut (s.drive[c]).travel && (s.drive[c]).state.running) .travelTimerExpiry
    ++ dueOf four (fun c => ranOut (s.drive[c]).step && (s.drive[c]).state.running) .stepTimerExpiry
    ++ dueOf four (fun c => ranOut (s.drive[c]).delay && (s.drive[c]).state.running) .delayTimerExpiry
    ++ dueOf four (fun c => ranOut (s.drive[c]).coast) .coastTimerExpiry
    ++ dueOf four (fun c => ranOut (s.drive[c]).interval) .intervalTimerExpiry

/-- The rows due at the groups (R45, R47, R77). -/
def dueGroups (s : State) : List Instr :=
  dueOf four (fun g => ranOut (s.seq.machine[g]).switching) .switchingDelayExpiry
    ++ dueOf four (fun g => ranOut (s.seq.machine[g]).periodic) .periodicTimerExpiry
    ++ dueOf s.topo.groups (fun g => staleDue s.settings.maxAge s.est[g]) .ageTimerExpiry

/-- The starts that nothing keeps back: moves before cycles (R40, R43, R126), then a notice frame (R189). -/
def dueStarts (s : State) : List Instr :=
  dueOf four (fun c => (startable s c).isSome && (s.drive[c]).position.isSome) .moveStart
    ++ dueOf four (cycleReady s) .cycleStart
    ++ (if noticeMayBegin s then [.noticeFrame] else [])

/-- The row the part takes by itself now, the first that is due in the order above. -/
def nextInternal (s : State) : Option Instr :=
  (dueLink s ++ dueInputs s ++ dueSupervisor s ++ dueDrives s ++ dueGroups s ++ dueStarts s).head?

end Sys2Proof.Machine
end

