-- ==== Sys2Proof/Machine/Dispatch.lean ====
section
/-! DEFINITION. The dispatch of a command to its meaning: one arm per row of spec/opcode_table.json. -/

namespace Sys2Proof.Machine

/-- The effect of one command on everything but the queue of commands. -/
def exec (i : Instr) (s : State) : Host.Outcome State Fault Refusal :=
  match i with
  | .powerOn strap1 strap0 => Sys2Proof.Machine.execPowerOn strap1 strap0 s
  | .resetPin strap1 strap0 => Sys2Proof.Machine.execResetPin strap1 strap0 s
  | .enterSetup => Sys2Proof.Machine.execEnterSetup s
  | .ident tag => Sys2Proof.Machine.execIdent tag s
  | .timeSet tag time => Sys2Proof.Machine.execTimeSet tag time s
  | .set tag id scope value => Sys2Proof.Machine.execSet tag id scope value s
  | .setNominalFrequency tag scope value => Sys2Proof.Machine.execSetNominalFrequency tag scope value s
  | .setInjectorLevel tag scope value => Sys2Proof.Machine.execSetInjectorLevel tag scope value s
  | .setPeriodicInterval tag scope value => Sys2Proof.Machine.execSetPeriodicInterval tag scope value s
  | .setMaximumAge tag scope value => Sys2Proof.Machine.execSetMaximumAge tag scope value s
  | .setStartThreshold tag scope value => Sys2Proof.Machine.execSetStartThreshold tag scope value s
  | .setStopTolerance tag tap scope value => Sys2Proof.Machine.execSetStopTolerance tag tap scope value s
  | .setInputPolarity tag scope value => Sys2Proof.Machine.execSetInputPolarity tag scope value s
  | .setInputAssignment tag scope value => Sys2Proof.Machine.execSetInputAssignment tag scope value s
  | .get tag id scope => Sys2Proof.Machine.execGet tag id scope s
  | .couplerSet tag coupler state => Sys2Proof.Machine.execCouplerSet tag coupler state s
  | .coilConfig tag coil present type sect injector => Sys2Proof.Machine.execCoilConfig tag coil present type sect injector s
  | .coilMode tag coil mode => Sys2Proof.Machine.execCoilMode tag coil mode s
  | .coilMove tag coil position => Sys2Proof.Machine.execCoilMove tag coil position s
  | .coilStop tag coil => Sys2Proof.Machine.execCoilStop tag coil s
  | .driveClear tag coil => Sys2Proof.Machine.execDriveClear tag coil s
  | .feederDefine tag feeder define sect meaning contribution => Sys2Proof.Machine.execFeederDefine tag feeder define sect meaning contribution s
  | .feederSet tag feeder state => Sys2Proof.Machine.execFeederSet tag feeder state s
  | .feederRead tag feeder => Sys2Proof.Machine.execFeederRead tag feeder s
  | .setpoint tag sect value => Sys2Proof.Machine.execSetpoint tag sect value s
  | .measure tag sect => Sys2Proof.Machine.execMeasure tag sect s
  | .readEstimate tag sect => Sys2Proof.Machine.execReadEstimate tag sect s
  | .readCoil tag coil => Sys2Proof.Machine.execReadCoil tag coil s
  | .readInputs tag => Sys2Proof.Machine.execReadInputs tag s
  | .readHistory tag first count => Sys2Proof.Machine.execReadHistory tag first count s
  | .readFaults tag => Sys2Proof.Machine.execReadFaults tag s
  | .eventsRead tag => Sys2Proof.Machine.execEventsRead tag s
  | .eventsClear tag kinds => Sys2Proof.Machine.execEventsClear tag kinds s
  | .noticeMask tag mask => Sys2Proof.Machine.execNoticeMask tag mask s
  | .noticeConfig tag trigger hold => Sys2Proof.Machine.execNoticeConfig tag trigger hold s
  | .tableOpen tag coil count => Sys2Proof.Machine.execTableOpen tag coil count s
  | .tablePoints tag points => Sys2Proof.Machine.execTablePoints tag points s
  | .tableCommit tag => Sys2Proof.Machine.execTableCommit tag s
  | .run tag => Sys2Proof.Machine.execRun tag s
  | .stop tag => Sys2Proof.Machine.execStop tag s
  | .restart tag => Sys2Proof.Machine.execRestart tag s
  | .unknownKind tag kind => Sys2Proof.Machine.execUnknownKind tag kind s
  | .frameDiscard => Sys2Proof.Machine.execFrameDiscard s
  | .inputBufferFull => Sys2Proof.Machine.execInputBufferFull s
  | .interByteGap => Sys2Proof.Machine.execInterByteGap s
  | .transmitEnd => Sys2Proof.Machine.execTransmitEnd s
  | .noticeFrame => Sys2Proof.Machine.execNoticeFrame s
  | .noticeHoldExpiry => Sys2Proof.Machine.execNoticeHoldExpiry s
  | .cycleBoundary samples supervisorFirst => Sys2Proof.Machine.execCycleBoundary samples supervisorFirst s
  | .zeroCrossing counts => Sys2Proof.Machine.execZeroCrossing counts s
  | .periodTimeout => Sys2Proof.Machine.execPeriodTimeout s
  | .cycleStart grp => Sys2Proof.Machine.execCycleStart grp s
  | .switchingDelayExpiry grp => Sys2Proof.Machine.execSwitchingDelayExpiry grp s
  | .periodicTimerExpiry grp => Sys2Proof.Machine.execPeriodicTimerExpiry grp s
  | .ageTimerExpiry grp => Sys2Proof.Machine.execAgeTimerExpiry grp s
  | .moveStart coil => Sys2Proof.Machine.execMoveStart coil s
  | .positionReport coil code valid => Sys2Proof.Machine.execPositionReport coil code valid s
  | .travelTimerExpiry coil => Sys2Proof.Machine.execTravelTimerExpiry coil s
  | .stepTimerExpiry coil => Sys2Proof.Machine.execStepTimerExpiry coil s
  | .delayTimerExpiry coil => Sys2Proof.Machine.execDelayTimerExpiry coil s
  | .coastTimerExpiry coil => Sys2Proof.Machine.execCoastTimerExpiry coil s
  | .intervalTimerExpiry coil => Sys2Proof.Machine.execIntervalTimerExpiry coil s
  | .startDwellExpiry sect => Sys2Proof.Machine.execStartDwellExpiry sect s
  | .endDwellExpiry sect => Sys2Proof.Machine.execEndDwellExpiry sect s
  | .postFaultHoldExpiry grp => Sys2Proof.Machine.execPostFaultHoldExpiry grp s
  | .persistenceTimerExpiry sect => Sys2Proof.Machine.execPersistenceTimerExpiry sect s
  | .rawLevelChange input high => Sys2Proof.Machine.execRawLevelChange input high s
  | .debounceTimerExpiry input => Sys2Proof.Machine.execDebounceTimerExpiry input s
  | .firstDebounceTimeout => Sys2Proof.Machine.execFirstDebounceTimeout s
  | .discrepancyTimerExpiry coupler => Sys2Proof.Machine.execDiscrepancyTimerExpiry coupler s
  | .receivedByte byte => Sys2Proof.Machine.execReceivedByte byte s
  | .missingStopBit => Sys2Proof.Machine.execMissingStopBit s

end Sys2Proof.Machine
end

