-- ==== Sys2Proof/Machine/Step.lean ====
section
/-! DEFINITION. One step of the part: the command at the front of the queue, or what the part does by itself. -/

namespace Sys2Proof.Machine

/-- One step. A waiting command is taken from the front of the queue. On an empty queue the part takes the row that is due by
its own state and timers, and when none is due one millisecond passes (log entry 4). -/
def step (s : State) : Host.Outcome State Fault Refusal :=
  match s.pending with
  | i :: rest => exec i { s with pending := rest }
  | [] =>
    match nextInternal s with
    | some i => exec i s
    | none => .next (tick s)

/-- `s` with the command that a word of the opcode table spells put at the front of its queue. -/
def State.withFetchWord (s : State) (nbits w : Nat) : State :=
  match decodeTableWord nbits w with
  | some i => { s with pending := i :: s.pending }
  | none => s

end Sys2Proof.Machine
end

