-- ==== Sys2Proof/Safety.lean ====
section
/-! DEFINITION. What the manual promises of every state of the part: the laws of the chapters as predicates, in the terms the
statements use. -/

namespace Sys2Proof.Machine

/-- The law of the topology (R26): the stored group table, held flags, members and leads are those the couplers, the coil records
and the injectors' availability give. -/
def topologyLaw (s : State) : Bool :=
  s.topo == s.topo.recomputed (fun c => (s.seq.injector[c]).available)

/-- The law of the tables (R101): strictly increasing positions and currents. -/
def increasing : List Point → Bool
  | p :: q :: rest => decide (p.pos < q.pos) && decide (p.cur < q.cur) && increasing (q :: rest)
  | _ => true

/-- A committed table (R101): 2 to 32 points, strictly increasing; or the empty table. -/
def tableLaw (t : List Point) : Bool := t.isEmpty || (decide (2 ≤ t.length) && decide (t.length ≤ 32) && increasing t)

/-- Every coil's active table keeps the law of the tables (R101). -/
def tablesLaw (s : State) : Bool := s.planner.table.toList.all tableLaw

/-- The law of episodes and drives (R134): no drive of a coil whose section belongs to an open episode has an output energized. -/
def episodeDriveLaw (s : State) : Bool :=
  four.all (fun c =>
    (openEpisode s (s.topo.coil[c]).sect).isNone || (!(s.drive[c]).raiseOut && !(s.drive[c]).lowerOut))

/-- The capacities of the queue, the ring, the transition lists and the slots (R172, R187, R190, R92). -/
def capacityLaw (s : State) : Bool :=
  decide (s.events.queue.length ≤ Config.queueCapacity) && decide (s.ring.records.length ≤ Config.ringCapacity)
    && s.reg.list.toList.all (fun l => decide (l.entries.length ≤ Config.listCapacity))
    && decide (s.link.slots.length ≤ Config.slotCount)

/-- The injectors' availability is the one R36 defines, and what keeps it so: in STARTING no input is assigned yet, and from SETUP
on every input is debounced (R161, R163, R195). -/
def availabilityLaw (s : State) : Bool :=
  four.all (fun c => (s.seq.injector[c]).available == availability s s.topo c)
    && (if s.runState = .starting then s.contacts.input.toList.all (fun i => i.assignment == .nothing)
        else s.contacts.input.toList.all (fun i => i.level.isSome))

/-- An open load declares 2 to 32 points and holds no more than it declares (R177, R178). -/
def loadLaw (s : State) : Bool :=
  s.link.load.all (fun l => decide (2 ≤ l.count) && decide (l.count ≤ 32) && decide (l.points.length ≤ l.count))

/-- A drive energizes its raise output in RUNNING_UP alone and its lower output in RUNNING_DOWN alone, and coasts in STOPPING alone
(the table of states at the head of chapter 7, R132). -/
def outputsLaw (s : State) : Bool :=
  s.drive.toList.all (fun d =>
    (!d.raiseOut || d.state == .runningUp) && (!d.lowerOut || d.state == .runningDown)
      && (d.coast.isNone || d.state == .stopping))

/-- A drive in IDLE or FAULT holds no pending target (the table of states at the head of chapter 7, R121, R123, R138). -/
def restLaw (s : State) : Bool :=
  s.drive.toList.all (fun d => !(d.state == .idle || d.state == .fault) || d.pending.isNone)

/-- A running drive and a drive with a pending target are a member's, and no section of a running drive's group is in an open episode
(R121 to R123, R126, R134, R135). -/
def runningLaw (s : State) : Bool :=
  four.all (fun c =>
    (!((s.drive[c]).state.running || (s.drive[c]).state == .pending || (s.drive[c]).pending.isSome) || (s.topo.coil[c]).mode.member)
      && (!(s.drive[c]).state.running || !episodeCondition s (s.topo.groupOfCoil c)))

/-- The law of the cycle machines (section 3.2, R39 to R44): lock and capture exactly while a cycle is in flight, the flag set in
WAITING and clear in IDLE. -/
def machinesLaw (s : State) : Bool :=
  s.seq.machine.toList.all (fun m =>
    m.lock == m.state.inFlight && m.capture.isSome == m.state.inFlight && (!(m.state == .waiting) || m.flag)
      && (!(m.state == .idle) || !m.flag))

/-- The law of the fault log (R145, R155): at most 16 records, and every open record holds sections of its own, none of which another
open record holds. -/
def faultLogLaw (s : State) : Bool :=
  let opened := s.sup.log.filter EpisodeRecord.isOpen
  decide (s.sup.log.length ≤ Config.logCapacity) && opened.all (fun e => !e.sections.isEmpty)
    && decide (opened.Pairwise (fun e f => ∀ q ∈ e.sections, q ∉ f.sections))

/-- The origins of the targets (R121, R135): the pending target of a drive and the target of a running drive have the origin that the
coil's mode admits, AUTO in mode AUTO and MANUAL in mode MANUAL. -/
def originLaw (s : State) : Bool :=
  four.all (fun c =>
    (s.drive[c]).pending.all (fun t => t.origin.admits (s.topo.coil[c]).mode)
      && (!(s.drive[c]).state.running || (s.drive[c]).running.all (fun t => t.origin.admits (s.topo.coil[c]).mode)))

/-- A group out of use has its machine at rest, with no timer running, and no post-fault hold (R39, R154). -/
def useLaw (s : State) : Bool :=
  four.all (fun g => s.topo.inUse g || (s.seq.machine[g] == CycleMachine.rest && (s.sup.hold[g]).isNone))

/-- A held group has no cycle in flight (R40, R51). -/
def heldLaw (s : State) : Bool :=
  four.all (fun g => !(s.topo.group[g]).held || !(s.seq.machine[g]).state.inFlight)

/-- An injector is on only in RUN, and only as the lead of its group's cycle in flight (R38). -/
def injectorLaw (s : State) : Bool :=
  four.all (fun c =>
    let m := s.seq.machine[s.topo.groupOfCoil c]
    !(s.seq.injector[c]).enable || (s.runState == .run && m.state.inFlight && m.capture.map Capture.lead == some c))

/-! ## The terms of the statements about requests -/

/-- A request can be taken and is not refused for the run state (R172, R173): a slot is FREE and the part is not in STARTING. -/
def Taking (s : State) : Prop := s.link.slots.length < 2 ∧ s.runState ≠ .starting

/-- `s` with one more ANSWERED slot, which holds the reply frame, and with a free transmitter begun on it (R172, R180). -/
def withReply (kind tag : Nat) (st : Status) (result : List Byte) (s : State) : State :=
  { s with
    link := { s.link with
      slots := s.link.slots ++ [.answered (replyFrame kind tag st result)]
      tx := if s.link.tx = .free then .reply else s.link.tx } }

/-- The clamp of R176: the value written for the value asked for, in the range `lo..hi`, with the status of the reply. -/
def clamped (lo hi : Nat) (v : Int) : Nat × Status :=
  if v < lo then (lo, .clamped) else if hi < v then (hi, .clamped) else (v.toNat, .ok)

/-- The result of an accepted SET of setting `id` for a scope index, `v` being the value in force (R176, R181). -/
def setReply (id scope v : Nat) : List Byte := be 2 id ++ be 1 scope ++ signed 4 v

/-- The machine that takes a trigger in SETUP or RUN (R44): the flag is set, and IDLE becomes WAITING. -/
def flagged (m : CycleMachine) : CycleMachine :=
  { m with flag := true, state := if m.state = .idle then .waiting else m.state }

/-- The switching delay as a switching trigger leaves it (R45): restarted with T_switch, or with T_switch 0 expired, the flag set. -/
def switched (tSwitch : Nat) (m : CycleMachine) : CycleMachine :=
  if tSwitch = 0 then flagged { m with switching := none } else { m with switching := some (tSwitch * 1000) }

/-- Feeder `n` as a transition that adjusts no estimate leaves it, of a part that has left STARTING (R91, R92): the entry in the list
of its group, or the overflow of a full list, and the switching trigger. -/
def movedFeeder (n : FeederNo) (new : FeederState) (s : State) : State :=
  let f := s.reg.feeder[n]
  let g := s.topo.groupOf[f.sect]
  let e := s.est[g]
  let l := s.reg.list[g]
  let entry : ListEntry := ⟨n, f.sect, f.state, new, s.time, e.stateBehind, e.value.map Currents.iC, .nothing, s.reg.taken⟩
  { s with
    reg := { s.reg with
      feeder := s.reg.feeder.set n { f with state := new }
      list := s.reg.list.set g
        (if l.overflow = true then l
         else if l.entries.length < 8 then ⟨l.entries ++ [entry], false⟩
         else { l with overflow := true })
      taken := s.reg.taken + 1 }
    seq := { s.seq with machine := s.seq.machine.set g (switched s.settings.tSwitch s.seq.machine[g]) } }

/-- The event unit after one arrival (R184 to R187). -/
def afterEvent (k : EventKind) (subject : Option Nat) (values : List (Option Int)) (s : State) : EventUnit :=
  s.events.arrive k subject values s.time

/-- An event as a block raises it (R183): its kind, its subject and its values. -/
abbrev Event := EventKind × Option Nat × List (Option Int)

/-- The event unit after the arrivals of events of one moment, one after the other (R184 to R187). -/
def afterEvents (es : List Event) (s : State) : EventUnit :=
  es.foldl (fun u e => u.arrive e.1 e.2.1 e.2.2 s.time) s.events

/-- A section set as an event carries it (R181, R183): bit s for section s. -/
def maskOf (qs : List Section) : Int :=
  (if 0 ∈ qs then 1 else 0) + (if 1 ∈ qs then 2 else 0) + (if 2 ∈ qs then 4 else 0) + (if 3 ∈ qs then 8 else 0)

/-- The event ESTIMATE of group `g` with a reason (R74): 1 SETTLED, 2 STEP, 3 CONFIRMED, 4 PRE_TUNED, 5 MERGED, 6 SPLIT. -/
def estimateEvent (g : Group) (e : Estimate) (reason : Nat) : Event :=
  (.estimate, some g.val,
    [some e.state.code, e.value.map (fun v => Int.ofNat v.iC), e.value.map (fun v => Int.ofNat v.iG), some reason])

/-- The event STALE of group `g`, if the flag changes from `before` to that of the record `e` (R77). -/
def staleEvents (g : Group) (before : Bool) (e : Estimate) : List Event :=
  match before, e.stale with
  | false, true => [(.stale, some g.val, [some 1, e.age.map (fun a => roundDiv a 1000)])]
  | true, false => [(.stale, some g.val, [some 0, none])]
  | _, _ => []

/-- The event CYCLE_ABORTED of group `g`, if it has a cycle in flight (R48). -/
def abortEvents (g : Group) (o : CycleOutcome) (s : State) : List Event :=
  match (s.seq.machine[g]).capture with
  | some k =>
    if (s.seq.machine[g]).state.inFlight then
      [(.cycleAborted, some g.val, [some o.code, some k.lead.val, some (s.seq.machine[g]).state.code, some k.level])]
    else []
  | none => []

end Sys2Proof.Machine
end

