-- ==== Sys2Proof/WellFormed.lean ====
section
/-! DEFINITION. The commands whose operands fit the fields that carry them (R2, R12, R170, R174). A request's operand may hold
any number its field can carry: whether the value is in range is its rule's to judge. -/

namespace Sys2Proof

/-- A number of a field of `n` bytes. -/
def fits (n v : Nat) : Bool := decide (v < 256 ^ n)

/-- A number of a signed field of `bits` bits. -/
def fitsSigned (bits : Nat) (v : Int) : Bool := decide (-(2 ^ (bits - 1) : Nat) ≤ v) && decide (v < (2 ^ (bits - 1) : Nat))

/-- The 64 sample codes of one channel (R2, R3), each of 16 bits. -/
def samplesFit (xs : List Int) : Bool := xs.length == 64 && xs.all (fitsSigned 16)

/-- The ids of the settings with rows of their own. -/
def ownRow : List Nat := [0x0002, 0x0010, 0x0014, 0x0023, 0x0040, 0x0041, 0x0050, 0x0061, 0x0062]

/-- The request kinds of the catalogue (R174). -/
def requestKinds : List Nat :=
  [0x01, 0x02, 0x03, 0x04, 0x10, 0x11, 0x12, 0x13, 0x14, 0x15, 0x18, 0x19, 0x1A, 0x1C, 0x1D, 0x20, 0x21, 0x22, 0x23, 0x24,
    0x28, 0x29, 0x2A, 0x2B, 0x30, 0x31, 0x32, 0x38, 0x39, 0x3A]

/-- The operands of a command fit their fields. -/
def Instr.wellFormed : Instr → Bool
  | .powerOn _ _ => true
  | .resetPin _ _ => true
  | .enterSetup => true
  | .ident tag => fits 1 tag
  | .timeSet tag time => fits 1 tag && fits 6 time
  | .set tag id scope v => fits 1 tag && fits 2 id && !ownRow.contains id && fits 1 scope && fitsSigned 32 v
  | .setNominalFrequency tag scope v => fits 1 tag && fits 1 scope && fitsSigned 32 v
  | .setInjectorLevel tag scope v => fits 1 tag && fits 1 scope && fitsSigned 32 v
  | .setPeriodicInterval tag scope v => fits 1 tag && fits 1 scope && fitsSigned 32 v
  | .setMaximumAge tag scope v => fits 1 tag && fits 1 scope && fitsSigned 32 v
  | .setStartThreshold tag scope v => fits 1 tag && fits 1 scope && fitsSigned 32 v
  | .setStopTolerance tag _ scope v => fits 1 tag && fits 1 scope && fitsSigned 32 v
  | .setInputPolarity tag scope v => fits 1 tag && fits 1 scope && fitsSigned 32 v
  | .setInputAssignment tag scope v => fits 1 tag && fits 1 scope && fitsSigned 32 v
  | .get tag id scope => fits 1 tag && fits 2 id && fits 1 scope
  | .couplerSet tag k st => fits 1 tag && fits 1 k && fits 1 st
  | .coilConfig tag c p t q j => fits 1 tag && fits 1 c && fits 1 p && fits 1 t && fits 1 q && fits 1 j
  | .coilMode tag c m => fits 1 tag && fits 1 c && fits 1 m
  | .coilMove tag c p => fits 1 tag && fits 1 c && fits 2 p
  | .coilStop tag c => fits 1 tag && fits 1 c
  | .driveClear tag c => fits 1 tag && fits 1 c
  | .feederDefine tag n d q m c => fits 1 tag && fits 1 n && fits 1 d && fits 1 q && fits 1 m && fits 2 c
  | .feederSet tag n st => fits 1 tag && fits 1 n && fits 1 st
  | .feederRead tag n => fits 1 tag && fits 1 n
  | .setpoint tag q v => fits 1 tag && fits 1 q && fitsSigned 16 v
  | .measure tag q => fits 1 tag && fits 1 q
  | .readEstimate tag q => fits 1 tag && fits 1 q
  | .readCoil tag c => fits 1 tag && fits 1 c
  | .readInputs tag => fits 1 tag
  | .readHistory tag first n => fits 1 tag && fits 4 first && fits 1 n
  | .readFaults tag => fits 1 tag
  | .eventsRead tag => fits 1 tag
  | .eventsClear tag k => fits 1 tag && fits 2 k
  | .noticeMask tag k => fits 1 tag && fits 2 k
  | .noticeConfig tag t h => fits 1 tag && fits 1 t && fits 2 h
  | .tableOpen tag c n => fits 1 tag && fits 1 c && fits 1 n
  | .tablePoints tag ps => fits 1 tag && fits 1 ps.length && ps.all (fun p => fits 2 p.1 && fits 2 p.2)
  | .tableCommit tag => fits 1 tag
  | .run tag => fits 1 tag
  | .stop tag => fits 1 tag
  | .restart tag => fits 1 tag
  | .unknownKind tag kind => fits 1 tag && fits 1 kind && !requestKinds.contains kind
  | .frameDiscard => true
  | .inputBufferFull => true
  | .interByteGap => true
  | .transmitEnd => true
  | .noticeFrame => true
  | .noticeHoldExpiry => true
  | .cycleBoundary samples _ => samples.length == 12 && samples.all samplesFit
  | .zeroCrossing counts => decide (0 < counts)
  | .periodTimeout => true
  | .cycleStart _ => true
  | .switchingDelayExpiry _ => true
  | .periodicTimerExpiry _ => true
  | .ageTimerExpiry _ => true
  | .moveStart _ => true
  | .positionReport _ code _ => fits 2 code
  | .travelTimerExpiry _ => true
  | .stepTimerExpiry _ => true
  | .delayTimerExpiry _ => true
  | .coastTimerExpiry _ => true
  | .intervalTimerExpiry _ => true
  | .startDwellExpiry _ => true
  | .endDwellExpiry _ => true
  | .postFaultHoldExpiry _ => true
  | .persistenceTimerExpiry _ => true
  | .rawLevelChange _ _ => true
  | .debounceTimerExpiry _ => true
  | .firstDebounceTimeout => true
  | .discrepancyTimerExpiry _ => true
  | .receivedByte _ => true
  | .missingStopBit => true

end Sys2Proof
end

