-- ==== Sys2Proof/Certificates/Slice0/Obligations.lean ====
section
/-! DEFINITION. The statements for the provers. A statement about a request gives the whole next state: the effect, and one reply
in a slot (`withReply`). A slot is FREE and the part is not in STARTING wherever `Taking` stands. -/

open Sys2Proof Sys2Proof.Machine

/-! ## The queue, the clock and the reset -/

/-- The model's queue (log entry 7, DESIGN CHOICE: the spec knows no queue): a step takes the command in front of the queue and runs
`exec` on it with the queue's rest. -/
def Obligations.StepTakesTheFrontCommand : Prop :=
  ∀ (c : Instr) (rest : List Instr) (s : State), step { s with pending := c :: rest } = exec c { s with pending := rest }

/-- Model's choice (log entry 4) over R194: with no command waiting and no row due, one millisecond passes: part time counts and
wraps at 2^48; switching delays, periodic timers, holds and interval timers lose one ms; settings, topology, tables, registers and
records stand. -/
def Obligations.IdlePartLetsOneMillisecondPass : Prop :=
  ∀ s : State, s.pending = [] → nextInternal s = none → s.time < 2 ^ 48 →
    ∃ t, step s = .next t ∧ t.time = (if s.time = 2 ^ 48 - 1 then 0 else s.time + 1) ∧
      (∀ g : Group,
        t.seq.machine[g] =
          { s.seq.machine[g] with
            periodic := (s.seq.machine[g]).periodic.map (· - 1)
            switching := (s.seq.machine[g]).switching.map (· - 1) } ∧
        t.est[g] = { s.est[g] with age := (s.est[g]).age.map (· + 1) } ∧
        t.sup.hold[g] = (s.sup.hold[g]).map (· - 1)) ∧
      (∀ c : Coil, (t.drive[c]).interval = (s.drive[c]).interval.map (· - 1) ∧ (t.drive[c]).state = (s.drive[c]).state ∧
        (t.drive[c]).raiseOut = (s.drive[c]).raiseOut ∧ (t.drive[c]).lowerOut = (s.drive[c]).lowerOut) ∧
      t.runState = s.runState ∧ t.settings = s.settings ∧ t.acq = s.acq ∧ t.topo = s.topo ∧ t.reg = s.reg ∧
      t.planner = s.planner ∧ t.ring = s.ring ∧ t.pending = [] ∧ t.link.slots = s.link.slots ∧
      t.events.queue = s.events.queue ∧ t.events.latched = s.events.latched

/-- Every command ends in a next state in every state of the part, and leaves the queue of waiting commands as it is, POWER_ON and
RESET_PIN too. The queue is the model's (log entries 3 and 7, DESIGN CHOICE). -/
def Obligations.CommandsCompleteAndLeaveTheQueue : Prop :=
  ∀ (c : Instr) (s : State), ∃ t, exec c s = .next t ∧ t.pending = s.pending

/-- POWER_ON and RESET_PIN (R195): the power-on values of every block, whatever the state before; the straps give the rate code
(R169), and the plant's raw levels and position inputs stand and are taken as R120 says. That pins and waiting commands outlive the
reset is the model's choice (log entry 3). -/
def Obligations.PowerOnAndResetPinGiveThePowerOnState : Prop :=
  ∀ (a b : Bool) (s : State),
    ∃ t, exec (.powerOn a b) s = .next t ∧ exec (.resetPin a b) s = .next t ∧
      t.runState = .starting ∧ t.time = 0 ∧ t.settings = Settings.defaults ∧
      t.acq = ⟨Vector.replicate 12 ⟨0, 0⟩, Vector.replicate 12 false, 7680⟩ ∧
      t.tracker = ⟨none, [], none, 50000, 7680, true⟩ ∧
      t.topo.coupler = Vector.replicate 3 .unknown ∧ t.topo.groupOf = #v[0, 1, 2, 3] ∧
      t.topo.group = Vector.replicate 4 ⟨true, none, []⟩ ∧
      (∀ c : Coil, t.topo.coil[c] = ⟨.plunger, c, false, .absent⟩) ∧
      (∀ g : Group, t.seq.machine[g] = ⟨.idle, false, none, none, false, none⟩ ∧ t.est[g] = Estimate.reset ∧
        t.reg.list[g] = ⟨[], false⟩ ∧ t.planner.record[g] = PlanRecord.reset ∧ t.planner.setpoint[g] = 50 ∧
        t.planner.table[g] = [] ∧ t.sup.watch[g] = ⟨none, none, false⟩ ∧ t.sup.hold[g] = none ∧
        t.seq.injector[g] = ⟨false, 4, false, false, 4⟩) ∧
      t.seq.decisions = [] ∧ t.sup.log = [] ∧ t.sup.next = 1 ∧
      (∀ n : FeederNo, t.reg.feeder[n] = ⟨false, 0, .unknown, none, 0, none⟩) ∧
      (∀ i : ContactNo, t.contacts.input[i] = ⟨(s.contacts.input[i]).raw, none, some 10, 10, false, .nothing⟩) ∧
      (∀ k : Coupler, t.contacts.indication[k] = ⟨.nothing, none⟩) ∧
      (∀ c : Coil,
        t.drive[c] =
          { Drive.reset with
            inputCode := (s.drive[c]).inputCode
            inputValid := (s.drive[c]).inputValid
            position := if (s.drive[c]).inputValid = true ∧ (s.drive[c]).inputCode ≤ 4095 then some (s.drive[c]).inputCode else none
            feedback := decide ((s.drive[c]).inputValid = true ∧ (s.drive[c]).inputCode ≤ 4095) }) ∧
      t.link = ⟨(if a then 2 else 0) + (if b then 1 else 0), ⟨.hunt, [], 0, none⟩, [], .free, none⟩ ∧
      t.ring = ⟨[], 1⟩ ∧ t.events.mask = 0 ∧ t.events.latched = 0x0400 ∧
      t.events.queue = [⟨.freqHeld, false, 0, none, [some 1]⟩] ∧ t.events.trigger = 1 ∧ t.events.holdTime = 200 ∧
      t.events.overrun = false ∧ t.pending = s.pending

/-! ## IDENT, TIME_SET and the reads -/

/-- IDENT and TIME_SET (R175), with the refusals of TIME_SET in STARTING and of a longer IDENT. The read requests and GET change
nothing but their own reply (R82, R99, R141, R156, R167, R176, R185, R191). The read requests whose index is out of range (R173,
R181), and READ_HISTORY with a count of 0 (R191): BAD_VALUE, and the item's fields 0xFF; that READ_COIL and FEEDER_READ echo the
index, and that READ_HISTORY answers the count 0, is log entry 26 (DEDUCED). -/
def Obligations.IdentTimeSetAndReadsAnswer : Prop :=
  ((∀ (tag : Nat) (s : State), s.link.slots.length < 2 →
     exec (.ident tag) s =
       .next (withReply 0x01 tag .ok
         (([0x4F, 62, 1] : List Byte) ++ be 1 (match s.runState with | .starting => 0 | .setup => 1 | .run => 2) ++ be 1 s.link.rate ++ be 6 s.time)
         s) ∧
     ∀ (b : Byte) (rest : List Byte), dispatch 0x01 tag (b :: rest) s = withReply 0x01 tag .badLength [] s) ∧
   (∀ (tag time : Nat) (s : State), Taking s → time < 2 ^ 48 →
     exec (.timeSet tag time) s = .next (withReply 0x02 tag .ok (be 6 time) { s with time := time })) ∧
   (∀ (tag time : Nat) (s : State), s.link.slots.length < 2 → s.runState = .starting →
     exec (.timeSet tag time) s = .next (withReply 0x02 tag (.notReady .starting) [] s))) ∧
  ((∀ (tag : Nat) (s : State), Taking s →
      (∀ q : Section,
        exec (.readEstimate tag q) s = .next (withReply 0x20 tag .ok (estimateResult s.topo.groupOf[q] s) s)) ∧
      (∀ c : Coil, exec (.readCoil tag c) s = .next (withReply 0x21 tag .ok (coilResult c s) s)) ∧
      exec (.readInputs tag) s = .next (withReply 0x22 tag .ok (inputsResult s) s) ∧
      (∀ first count : Nat, 0 < count →
        exec (.readHistory tag first count) s = .next (withReply 0x23 tag .ok (historyResult first count s) s)) ∧
      exec (.readFaults tag) s = .next (withReply 0x24 tag .ok (faultsResult s) s) ∧
      exec (.eventsRead tag) s = .next (withReply 0x28 tag .ok (eventsResult s) s) ∧
      (∀ n : FeederNo, exec (.feederRead tag n) s = .next (withReply 0x1A tag .ok (feederResult n s) s)) ∧
      (∀ (k : SettingId) (scope : Nat), scope < k.scope →
        exec (.get tag k.code scope) s =
          .next (withReply 0x04 tag .ok (be 2 k.code ++ be 1 scope ++ signed 4 (readSetting k scope s)) s))) ∧
   (∀ (tag : Nat) (s : State), s.link.slots.length < 2 →
      (∀ q : Nat, 4 ≤ q → exec (.readEstimate tag q) s = .next (withReply 0x20 tag .badValue (List.replicate 66 0xFF) s)) ∧
      (∀ c : Nat, 4 ≤ c →
        exec (.readCoil tag c) s = .next (withReply 0x21 tag .badValue (be 1 c ++ List.replicate 52 0xFF) s)) ∧
      (∀ n : Nat, 48 ≤ n →
        exec (.feederRead tag n) s = .next (withReply 0x1A tag .badValue (be 1 n ++ List.replicate 9 0xFF) s)) ∧
      (∀ first : Nat, s.runState ≠ .starting → exec (.readHistory tag first 0) s = .next (withReply 0x23 tag .badValue [0] s)) ∧
      (∀ id scope : Nat, SettingId.ofCode id = none →
        exec (.get tag id scope) s = .next (withReply 0x04 tag .badValue (be 2 id ++ be 1 scope ++ List.replicate 4 0xFF) s))))

/-! ## The settings -/

/-- The settings table (R199, R200): for each row the id, the number of scope indices, the range of a numeric setting, the default
that every scope index holds at power-on, and whether SET is refused in RUN. No other id names a setting. A numeric setting reads
back what was written, and no other setting or scope index reads otherwise, but for the end threshold when the start threshold is
written (R157, R176, R199). -/
def Obligations.SettingsHaveTheirTableAndReadBack : Prop :=
  (let rows : List (Nat × Nat × Option (Nat × Nat) × Nat × Bool) :=
     [(0x0001, 12, some (1, 65535), 4096, false), (0x0002, 1, none, 50, true), (0x0010, 4, some (1, 8), 4, false),
      (0x0011, 1, some (2, 50), 10, false), (0x0012, 1, some (2, 32), 8, false), (0x0013, 1, some (0, 60), 2, false),
      (0x0014, 1, some (0, 3600), 300, false), (0x0015, 1, some (10, 2000), 50, false), (0x0020, 1, some (5, 1000), 30, false),
      (0x0021, 1, some (10, 5000), 150, false), (0x0022, 1, some (0, 4), 2, false), (0x0023, 1, some (60, 86400), 1800, false),
      (0x0030, 1, some (10, 2000), 100, false), (0x0040, 4, some (1, 400), 10, false), (0x0041, 4, some (0, 3), 0, false),
      (0x0042, 4, some (1, 500), 20, false), (0x0043, 4, some (0, 200), 50, false), (0x0044, 4, some (0, 10000), 1000, false),
      (0x0045, 4, some (1, 60), 8, false), (0x0046, 4, some (0, 60), 2, false), (0x0047, 4, some (0, 600), 30, false),
      (0x0050, 1, some (500, 9000), 2000, false), (0x0051, 1, some (20, 5000), 100, false),
      (0x0052, 1, some (100, 1900), 1000, false), (0x0053, 1, some (20, 5000), 500, false), (0x0054, 1, some (0, 600), 10, false),
      (0x0055, 1, some (60, 86400), 7200, false), (0x0060, 24, none, 10, false), (0x0061, 24, none, 0, false),
      (0x0062, 24, none, 0, true), (0x0063, 1, some (20, 10000), 500, false)]
   (∀ row ∈ rows,
     ∃ k, SettingId.ofCode row.1 = some k ∧ k.code = row.1 ∧ k.scope = row.2.1 ∧ k.limits State.reset = row.2.2.1 ∧
       (∀ i < k.scope, readSetting k i State.reset = row.2.2.2.1) ∧ k.structural = row.2.2.2.2) ∧
   (∀ id, (∀ row ∈ rows, row.1 ≠ id) → SettingId.ofCode id = none) ∧
   (∀ s : State, SettingId.limits .uEnd s = some (100, s.settings.uStart - 100))) ∧
  (∀ (k : SettingId) (i v : Nat) (s : State), (k.limits s).isSome = true → i < k.scope →
     readSetting k i (writeSetting k i v s) = v ∧
     ∀ (k' : SettingId) (j : Nat), j < k'.scope → (k', j) ≠ (k, i) → ¬ (k = .uStart ∧ k' = .uEnd) →
       readSetting k' j (writeSetting k i v s) = readSetting k' j s)

/-- SET of a numeric setting whose rule adds nothing of its own (R176): the value, clamped, is written and answered, and nothing
else changes. `lo ≤ hi` rules out the states, which no run reaches, in which the range of the end threshold is empty. SET of an
input's debounce time (R161, R176), and the refusals of SET (R176, R181): an unknown id, an index outside the scope, a value outside
an enumeration, and STARTING; that a refusal carries id and scope back as given, with 0xFF for the value, is log entry 26 (DEDUCED).
SET of the nominal frequency (R16, R17, R200): a new value moves f_used and the sample interval count, empties the frequency
history, and sets FREQ_HELD with its event when that was clear; the value in force changes nothing; RUN refuses. -/
def Obligations.SetWritesRefusesAndRestartsTheTracker : Prop :=
  ((∀ (tag : Nat) (k : SettingId) (i lo hi : Nat) (v : Int) (s : State), Taking s → i < k.scope → k.limits s = some (lo, hi) →
      lo ≤ hi →
      k ∉ ([.injectorLevel, .periodic, .maxAge, .plungerTolerance, .tapTolerance, .uStart] : List SettingId) →
        exec (.set tag k.code i v) s =
          .next (withReply 0x03 tag (clamped lo hi v).2 (setReply k.code i (clamped lo hi v).1)
            { s with settings := s.settings.write k i (clamped lo hi v).1 })) ∧
   ((∀ (tag : Nat) (i : ContactNo) (s : State), Taking s → ∀ v ∈ ([10, 100] : List Nat),
      exec (.set tag 0x0060 i v) s =
        .next (withReply 0x03 tag .ok (setReply 0x0060 i v) (s.setInput i { s.contacts.input[i] with debounce := v }))) ∧
    (∀ (tag id scope : Nat) (v : Int) (s : State), s.link.slots.length < 2 → SettingId.ofCode id = none →
      exec (.set tag id scope v) s =
        .next (withReply 0x03 tag .badValue (be 2 id ++ be 1 scope ++ ([0xFF, 0xFF, 0xFF, 0xFF] : List Byte)) s)) ∧
    (∀ (tag : Nat) (k : SettingId) (scope : Nat) (v : Int) (s : State), s.link.slots.length < 2 → k.scope ≤ scope →
      exec (.set tag k.code scope v) s =
        .next (withReply 0x03 tag .badValue (be 2 k.code ++ be 1 scope ++ ([0xFF, 0xFF, 0xFF, 0xFF] : List Byte)) s)) ∧
    (∀ (tag : Nat) (i : ContactNo) (v : Int) (s : State), s.link.slots.length < 2 → v ≠ 10 → v ≠ 100 →
      exec (.set tag 0x0060 i v) s =
        .next (withReply 0x03 tag .badValue (setReply 0x0060 i (s.contacts.input[i]).debounce) s)) ∧
    (∀ (tag : Nat) (k : SettingId) (scope : Nat) (v : Int) (s : State), s.link.slots.length < 2 → s.runState = .starting →
      scope < k.scope → (k.limits s).isSome = true →
      exec (.set tag k.code scope v) s = .next (withReply 0x03 tag (.notReady .starting) [] s)))) ∧
  (∀ (tag : Nat) (s : State), s.link.slots.length < 2 →
     (s.runState = .setup →
       (∀ hz ∈ ([50, 60] : List Nat), hz ≠ s.settings.nominal →
         exec (.setNominalFrequency tag 0 hz) s =
           .next (withReply 0x03 tag .ok (setReply 0x0002 0 hz)
             { s with
               settings := { s.settings with nominal := hz }
               tracker := ⟨s.tracker.source, [], none, hz * 1000, if hz = 50 then 7680 else 6400, true⟩
               events := if s.tracker.held = true then s.events
                 else afterEvent .freqHeld (s.tracker.source.map Fin.val) [some 1] s })) ∧
       (s.settings.nominal = 50 ∨ s.settings.nominal = 60 →
         exec (.setNominalFrequency tag 0 s.settings.nominal) s =
           .next (withReply 0x03 tag .ok (setReply 0x0002 0 s.settings.nominal) s))) ∧
     (s.runState = .run → ∀ hz ∈ ([50, 60] : List Nat),
       exec (.setNominalFrequency tag 0 hz) s =
         .next (withReply 0x03 tag .wrongState (setReply 0x0002 0 s.settings.nominal) s)) ∧
     (∀ v : Int, v ≠ 50 → v ≠ 60 →
       exec (.setNominalFrequency tag 0 v) s =
         .next (withReply 0x03 tag .badValue (setReply 0x0002 0 s.settings.nominal) s)))

/-- SET of an injector level (R37) writes both levels, and the level output of an injector that is off shows it (R38); SET of the
start threshold lowers an end threshold it would leave too high (R157). SET of a stop tolerance (R128, R140): the value is written
for the coil, and a running drive of that type whose stop condition the new tolerance meets stops as REACHED at once; the value in
force changes nothing. -/
def Obligations.SetLevelThresholdAndToleranceActAtOnce : Prop :=
  (∀ (tag : Nat) (v : Int) (s : State), Taking s →
     (∀ c : Coil,
       exec (.setInjectorLevel tag c v) s =
         .next (withReply 0x03 tag (clamped 1 8 v).2 (setReply 0x0010 c (clamped 1 8 v).1)
           { s with
             settings := { s.settings with injectorLevel := s.settings.injectorLevel.set c (clamped 1 8 v).1 }
             seq := { s.seq with
               injector := s.seq.injector.set c
                 { s.seq.injector[c] with
                   effective := (clamped 1 8 v).1
                   level := if (s.seq.injector[c]).enable = true then (s.seq.injector[c]).level else (clamped 1 8 v).1 } } })) ∧
     exec (.setStartThreshold tag 0 v) s =
       .next (withReply 0x03 tag (clamped 500 9000 v).2 (setReply 0x0050 0 (clamped 500 9000 v).1)
         { s with
           settings := { s.settings with
             uStart := (clamped 500 9000 v).1
             uEnd := min s.settings.uEnd ((clamped 500 9000 v).1 - 100) } })) ∧
  (∀ (tag : Nat) (tap : Bool) (c : Coil) (v : Int) (s : State), Taking s →
     let n := (clamped (if tap then 0 else 1) (if tap then 3 else 400) v).1
     let st := (clamped (if tap then 0 else 1) (if tap then 3 else 400) v).2
     let id := if tap then 0x0041 else 0x0040
     let old := if tap then s.settings.tapTolerance[c] else s.settings.plungerTolerance[c]
     let written : State :=
       { s with
         settings :=
           if tap then { s.settings with tapTolerance := s.settings.tapTolerance.set c n }
           else { s.settings with plungerTolerance := s.settings.plungerTolerance.set c n } }
     (old = n → exec (.setStopTolerance tag tap c v) s = .next (withReply 0x03 tag st (setReply id c n) s)) ∧
     (old ≠ n →
       exec (.setStopTolerance tag tap c v) s =
         .next (withReply 0x03 tag st (setReply id c n)
           (if stopReached s.drive[c] (stopTolerance written c) = true then enterStopping c .reached written else written))))

/-- SET of the periodic interval (R47): 0 stops the periodic timer of every group in use, 1..9 go to 10, values above 3600 to 3600,
and the timers restart with the value. A negative value is clamped to 0 (log entry 23), and the timers restart also with the value
in force (log entry 31). SET of the maximum age (R77): the estimates of the groups in use that hold a value and whose age exceeds
the new maximum become stale at once, each with the event STALE of its group, in increasing group number (log entry 49, DESIGN
CHOICE), the value 1 and its age in seconds, rounded as log entry 18 says; nothing else of any estimate changes. SET of an input's
polarity (R162): a new polarity reverses the active state of a debounced input, raises INPUT_CHANGE and is handed to the item of its
assignment; the polarity in force changes nothing. SET of an input's assignment (R163, R200): in SETUP the old assignment is removed
and the new one made; an assignment that another input holds is refused, and so is any in RUN. By kind (R166): a FEEDER's source
becomes the input and its active state is delivered at once to a defined feeder (R90), and on removal the source is REQUEST and the
state stays; a COIL_PARK input that is active parks a MANUAL or AUTO coil (R24), one of a limit stops a move in its direction as
LIMIT (R131), and their removal changes nothing; INJECTOR_FAULT has the availability recomputed both times (R36), as the statement
ContactItemsTakeTheirChange says; a coupler's form is recomputed both times (R160), a form that is no longer DOUBLE stops its timer,
and a new form delivers at once what its contacts indicate (R164, R165). Log entries 18, 23 and 31 are DEDUCED. -/
def Obligations.SetOfTimersAndInputsActsAtOnce : Prop :=
  ((∀ (tag : Nat) (v : Int) (s : State), Taking s →
      ∃ n : Nat, (n : Int) = (if v ≤ 0 then 0 else if v < 10 then 10 else if 3600 < v then 3600 else v) ∧
        ∃ t, exec (.setPeriodicInterval tag 0 v) s =
            .next (withReply 0x03 tag (if v = n then .ok else .clamped) (setReply 0x0014 0 n) t) ∧
          t = { s with settings := { s.settings with periodic := n }, seq := { s.seq with machine := t.seq.machine } } ∧
          ∀ g : Group,
            t.seq.machine[g] =
              if s.topo.inUse g = true then { s.seq.machine[g] with periodic := if n = 0 then none else some (n * 1000) }
              else s.seq.machine[g]) ∧
   (∀ (tag : Nat) (v : Int) (s : State), Taking s →
      ∃ t, exec (.setMaximumAge tag 0 v) s =
          .next (withReply 0x03 tag (clamped 60 86400 v).2 (setReply 0x0023 0 (clamped 60 86400 v).1) t) ∧
        t = { s with
          settings := { s.settings with maxAge := (clamped 60 86400 v).1 }
          est := t.est
          events := t.events } ∧
        (∀ g : Group,
          t.est[g] =
            { s.est[g] with
              stale := (s.est[g]).stale ||
                (s.topo.inUse g && (s.est[g]).value.isSome &&
                  (s.est[g]).age.any (fun a => decide ((clamped 60 86400 v).1 * 1000 < a))) }) ∧
        t.events =
          (s.topo.groups.filter (fun g => !(s.est[g]).stale && (t.est[g]).stale)).foldl
            (fun u g => u.arrive .stale (some g) [some 1, (s.est[g]).age.map (fun a => Int.ofNat (ageSeconds a))] s.time) s.events)) ∧
  ((∀ (tag : Nat) (i : ContactNo) (b : Bool) (s : State), Taking s →
      let r := s.contacts.input[i]
      let v : Int := if b then 1 else 0
      (r.inverted = b → exec (.setInputPolarity tag i v) s = .next (withReply 0x03 tag .ok (setReply 0x0061 i v.toNat) s)) ∧
      (r.inverted ≠ b → ∀ l, r.level = some l → r.assignment = .nothing →
        exec (.setInputPolarity tag i v) s =
          .next (withReply 0x03 tag .ok (setReply 0x0061 i v.toNat)
            { s.setInput i { r with inverted := b } with
              events := afterEvent .inputChange (some i) [some (if l != b then 1 else 0), some (if l then 1 else 0), some 0, none] s })) ∧
      (r.inverted ≠ b → ∀ l, r.level = some l →
        exec (.setInputPolarity tag i v) s =
          .next (withReply 0x03 tag .ok (setReply 0x0061 i v.toNat)
            (handActive r.assignment (l != b)
              (raiseEvent .inputChange (some i)
                [val (bit (l != b)), val (bit l), val r.assignment.kindCode, value r.assignment.item]
                (s.setInput i { r with inverted := b }))))) ∧
      (r.inverted ≠ b → r.level = none →
        exec (.setInputPolarity tag i v) s =
          .next (withReply 0x03 tag .ok (setReply 0x0061 i v.toNat) (s.setInput i { r with inverted := b })))) ∧
   (∀ (tag : Nat) (i : ContactNo) (a : Assignment) (s : State), s.link.slots.length < 2 →
      let r := s.contacts.input[i]
      let free := a = .nothing ∨ ∀ j : ContactNo, j ≠ i → (s.contacts.input[j]).assignment ≠ a
      (s.runState = .setup → free → r.assignment = a →
        exec (.setInputAssignment tag i a.settingValue) s = .next (withReply 0x03 tag .ok (setReply 0x0062 i a.settingValue) s)) ∧
      (s.runState = .setup → free → r.assignment = .nothing → (∃ c : Coil, a = .coilPark c) → r.active ≠ some true →
        exec (.setInputAssignment tag i a.settingValue) s =
          .next (withReply 0x03 tag .ok (setReply 0x0062 i a.settingValue) (s.setInput i { r with assignment := a }))) ∧
      (s.runState = .setup → free → r.assignment ≠ a →
        exec (.setInputAssignment tag i a.settingValue) s =
          .next (withReply 0x03 tag .ok (setReply 0x0062 i a.settingValue)
            (assignmentMade i a (setAssignment i a (assignmentRemoved r.assignment (setAssignment i .nothing s)))))) ∧
      (s.runState = .setup → ¬ free →
        exec (.setInputAssignment tag i a.settingValue) s =
          .next (withReply 0x03 tag .badValue (setReply 0x0062 i r.assignment.settingValue) s)) ∧
      (s.runState = .run →
        exec (.setInputAssignment tag i a.settingValue) s =
          .next (withReply 0x03 tag .wrongState (setReply 0x0062 i r.assignment.settingValue) s)))) ∧
  (∀ (i : ContactNo) (s : State),
     let active := (s.contacts.input[i]).active
     let holds : Assignment → Bool := fun a => decide (∃ j : ContactNo, (s.contacts.input[j]).assignment = a)
     let follow : Coupler → CouplerState → State → State := fun k x u =>
       if u.topo.coupler[k] = x then u else changeTopology (fun v => { v with coupler := v.coupler.set k x }) u
     (assignmentRemoved .nothing s = s ∧ assignmentMade i .nothing s = s) ∧
     (∀ n : FeederNo,
       let f := s.reg.feeder[n]
       let linked := s.setFeeder n { f with source := some i }
       assignmentRemoved (.feeder n) s = s.setFeeder n { f with source := none } ∧
       (f.defined = false ∨ active = none → assignmentMade i (.feeder n) s = linked) ∧
       (∀ b, f.defined = true → active = some b → assignmentMade i (.feeder n) s = handActive (.feeder n) b linked)) ∧
     (∀ c : Coil,
       let mode := (s.topo.coil[c]).mode
       let drive := s.drive[c]
       (assignmentRemoved (.coilPark c) s = s ∧ assignmentRemoved (.limitUp c) s = s ∧ assignmentRemoved (.limitDown c) s = s) ∧
       (assignmentRemoved (.injectorFault c) s = handActive (.injectorFault c) false s ∧
         assignmentMade i (.injectorFault c) s = handActive (.injectorFault c) (decide (active = some true)) s) ∧
       (active = some true →
         assignmentMade i (.coilPark c) s =
           (if mode = .manual ∨ mode = .auto then
             changeTopology (fun u => { u with coil := u.coil.set c { u.coil[c] with mode := .parked } }) s
           else s) ∧
         assignmentMade i (.limitUp c) s = (if drive.state = .runningUp then enterStopping c .limit s else s) ∧
         assignmentMade i (.limitDown c) s = (if drive.state = .runningDown then enterStopping c .limit s else s)) ∧
       (active ≠ some true →
         assignmentMade i (.coilPark c) s = s ∧ assignmentMade i (.limitUp c) s = s ∧ assignmentMade i (.limitDown c) s = s)) ∧
     (∀ (k : Coupler) (a : Assignment), a = .couplerClosed k ∨ a = .couplerOpen k →
       let old := s.contacts.indication[k]
       let new : IndicationForm :=
         match holds (.couplerClosed k), holds (.couplerOpen k) with
         | true, true => .double | true, false => .singleClosed | false, true => .singleOpen | false, false => .nothing
       let u := s.setIndication k ⟨new, if new = .double then old.timer else none⟩
       let closed := assignedActive s (.couplerClosed k)
       let opened := assignedActive s (.couplerOpen k)
       let t := assignmentMade i a s
       assignmentRemoved a s = t ∧
       (new = old.form → t = s) ∧
       (new ≠ old.form →
         (new = .nothing → t = u) ∧
         (new = .singleClosed →
           t = match closed with | some b => follow k (if b = true then .closed else .opened) u | none => u) ∧
         (new = .singleOpen →
           t = match opened with | some b => follow k (if b = true then .opened else .closed) u | none => u) ∧
         (new = .double →
           t = match closed, opened with
             | some true, some false => follow k .closed (s.setIndication k ⟨.double, none⟩)
             | some false, some true => follow k .opened (s.setIndication k ⟨.double, none⟩)
             | some _, some _ => s.setIndication k ⟨.double, some (old.timer.getD s.settings.discrepancy)⟩
             | _, _ => u))) ∧
     (∀ a : Assignment, (s.contacts.input[i]).assignment = a → (∀ j : ContactNo, j ≠ i → (s.contacts.input[j]).assignment ≠ a) →
       assignedActive s a = active))

/-! ## Topology -/

/-- The group table and the held flags (R26, R27): a CLOSED coupler joins its two sections, any other ends a run; a group's number
is its lowest section; a group is held when it holds section k or k + 1 of an UNKNOWN coupler k; its members are the MANUAL and AUTO
coils of its sections; its lead is the lowest AUTO member with an available injector, else the lowest such MANUAL one (R28). -/
def Obligations.GroupTableFollowsTheCouplers : Prop :=
  ∀ (available : Coil → Bool) (u : Topology),
    let t := u.recomputed available
    t.coupler = u.coupler ∧ t.coil = u.coil ∧ t.groupOf[(0 : Section)] = 0 ∧
    (∀ k : Coupler,
      t.groupOf[k.succ] = if u.coupler[k] = .closed then t.groupOf[k.castSucc] else k.succ) ∧
    (∀ q : Section, t.groupOf[q] ≤ q ∧ t.groupOf[t.groupOf[q]] = t.groupOf[q]) ∧
    (∀ p q r : Section, p ≤ q → q ≤ r → t.groupOf[p] = t.groupOf[r] → t.groupOf[q] = t.groupOf[p]) ∧
    (∀ g : Group,
      t.groupOf[g] = g →
        ((t.group[g]).held = true ↔
          ∃ k : Coupler, u.coupler[k] = .unknown ∧ (t.groupOf[k.castSucc] = g ∨ t.groupOf[k.succ] = g)) ∧
        (∀ c : Coil,
          c ∈ (t.group[g]).members ↔
            ((u.coil[c]).mode = .manual ∨ (u.coil[c]).mode = .auto) ∧ t.groupOf[(u.coil[c]).sect] = g) ∧
        (∀ c : Coil, (t.group[g]).lead = some c → c ∈ (t.group[g]).members ∧ available c = true ∧
          ((u.coil[c]).mode = .auto → ∀ d ∈ (t.group[g]).members, available d = true → (u.coil[d]).mode = .auto → c ≤ d) ∧
          ((u.coil[c]).mode = .manual → ∀ d ∈ (t.group[g]).members, available d = true → (u.coil[d]).mode ≠ .auto ∧ c ≤ d)) ∧
        ((t.group[g]).lead = none → ∀ c ∈ (t.group[g]).members, available c = false))

/-- COUPLER_SET (R20): a new state is one topology change, whose table keeps the law of the topology (R26); the state in force
changes nothing; an assigned contact and values out of range refuse. Every topology change raises one GROUP_CHANGE for each group
whose sections or members are no longer those of the group that held its lowest section before, in increasing group number, with the
old and the new section set and member count (R31), and no other one; that these come before the events of the blocks is log entry 9
(DESIGN CHOICE). The reply to a coupler number out of range is log entry 26 (DEDUCED), the order of the works inside the change is
log entry 9 (DESIGN CHOICE): the model's. -/
def Obligations.CouplerSetIsOneTopologyChange : Prop :=
  (∀ (tag : Nat) (k : Coupler) (x : CouplerState) (s : State), s.link.slots.length < 2 →
     let taken := ∃ i : ContactNo,
       (s.contacts.input[i]).assignment = .couplerClosed k ∨ (s.contacts.input[i]).assignment = .couplerOpen k
     (s.runState ≠ .starting → ¬ taken → s.topo.coupler[k] = x →
       exec (.couplerSet tag k x.code) s = .next (withReply 0x10 tag .ok (be 1 k ++ be 1 x.code) s)) ∧
     (s.runState ≠ .starting → ¬ taken → s.topo.coupler[k] ≠ x →
       ∃ t, exec (.couplerSet tag k x.code) s = .next (withReply 0x10 tag .ok (be 1 k ++ be 1 x.code) t) ∧
         t = changeTopology (fun u => { u with coupler := u.coupler.set k x }) s ∧
         t.topo.coupler = s.topo.coupler.set k x ∧ t.topo.coil = s.topo.coil ∧ topologyLaw t = true ∧
         t.reg.feeder = s.reg.feeder ∧ t.planner.table = s.planner.table ∧ t.planner.setpoint = s.planner.setpoint ∧
         t.contacts = s.contacts ∧ t.settings = s.settings ∧ t.link = s.link ∧ t.runState = s.runState ∧ t.time = s.time ∧
         t.acq = s.acq ∧ t.tracker = s.tracker) ∧
     (s.runState ≠ .starting → taken →
       exec (.couplerSet tag k x.code) s = .next (withReply 0x10 tag .assigned (be 1 k ++ be 1 (s.topo.coupler[k]).code) s)) ∧
     (∀ n : Nat, 3 ≤ n →
       exec (.couplerSet tag k n) s = .next (withReply 0x10 tag .badValue (be 1 k ++ be 1 (s.topo.coupler[k]).code) s) ∧
       exec (.couplerSet tag n x.code) s = .next (withReply 0x10 tag .badValue (be 1 n ++ ([0xFF] : List Byte)) s))) ∧
  (∀ (f : Topology → Topology) (s : State),
     let t := changeTopology f s
     let sections : Topology → Group → List Section := fun u g =>
       ([0, 1, 2, 3] : List Section).filter (fun q => decide (u.groupOf[q] = g))
     let changed : Group → Prop := fun g =>
       let before := s.topo.groupOf[g]
       t.topo.groupOf[g] = g ∧
         (sections t.topo g ≠ sections s.topo before ∨ (t.topo.group[g]).members ≠ (s.topo.group[before]).members)
     let event : Group → Event := fun g =>
       let before := s.topo.groupOf[g]
       (.groupChange, some g.val,
         [some (maskOf (sections s.topo before)), some (maskOf (sections t.topo g)), some (s.topo.group[before]).members.length,
           some (t.topo.group[g]).members.length])
     ∃ later : List Event,
       t.events = afterEvents ((([0, 1, 2, 3] : List Group).filter (fun g => decide (changed g))).map event ++ later) s ∧
         ∀ e ∈ later, e.1 ≠ .groupChange)

/-- What a coupler change carries (R30 to R32, R50, R54, R55, R80, R81, R94, R154). A coupler that becomes CLOSED merges group b = k
+ 1 into the group a of section k: estimates by the merge record, transition lists in the order taken with the oldest 8 kept, and
the later running hold, which an open episode cancels. A CLOSED coupler that becomes OPEN or UNKNOWN splits it: the estimate by the
contribution sums, the entries to the side of their section, the hold to each side without an open episode. The groups so changed
have no quiet history and no armed detection, and are FROZEN exactly when an episode or a hold says so; every other group's
estimate, list and hold stand. The count of boundaries since an injector was switched off starts again at 0 where a cycle was in
flight, whose abort is the statement CouplerChangesAbortAndRetriggerTheGroups. Each pending decision goes with its marked sections
to every group that holds one of them. -/
def Obligations.CouplerChangesCarryTheGroupsState : Prop :=
  ∀ (k : Coupler) (x : CouplerState) (s : State), topologyLaw s = true → availabilityLaw s = true → s.topo.coupler[k] ≠ x →
    let t := changeTopology (fun u => { u with coupler := u.coupler.set k x }) s
    let a := s.topo.groupOf[k.castSucc]
    let b : Group := k.succ
    let settled : Group → Estimate → Option Nat → Estimate := fun g e since =>
      let e : Estimate := { e with quiet := [], armed := false, sinceOff := since }
      if frozen t g = true then
        if e.state = .frozen then e else { e with state := .frozen, returnState := some e.state }
      else if e.state = .frozen then { e with state := e.returnState.getD .empty, returnState := none }
      else e
    let since : Group → Option Nat := fun g =>
      if (s.seq.machine[g]).capture.isSome = true ∧ (s.seq.machine[g]).state.inFlight = true then some 0 else (s.est[g]).sinceOff
    let hold : Group → Option Nat → Option Nat := fun g h => if episodeCondition t g = true then none else h
    (∀ g : Group, g ≠ a → g ≠ b →
      (((s.topo.group[g]).held = true → (s.seq.machine[g]).state.inFlight = false) → t.est[g] = s.est[g]) ∧
      t.reg.list[g] = s.reg.list[g] ∧ t.sup.hold[g] = s.sup.hold[g]) ∧
    (x = .closed →
      t.est[a] = settled a (mergeEstimates s.est[a] s.est[b]) (leastCount (since a) (since b)) ∧
      t.est[b] = Estimate.reset ∧
      t.reg.list[a] = mergeLists s.reg.list[a] s.reg.list[b] ∧ t.reg.list[b] = ⟨[], false⟩ ∧
      t.sup.hold[a] = hold a (laterHold s.sup.hold[a] s.sup.hold[b]) ∧ t.sup.hold[b] = none) ∧
    (s.topo.coupler[k] = .closed →
      let sides := splitEstimates s.est[a] (splitSum s (t.topo.sections a)) (splitSum s (t.topo.sections b))
      let part : Group → TransitionList := fun g =>
        ⟨(s.reg.list[a]).entries.filter (fun e => decide (t.topo.groupOf[e.sect] = g)), (s.reg.list[a]).overflow⟩
      t.est[a] = settled a sides.1 (since a) ∧ t.est[b] = settled b sides.2 (since a) ∧
      t.reg.list[a] = part a ∧ t.reg.list[b] = part b ∧
      t.sup.hold[a] = hold a s.sup.hold[a] ∧ t.sup.hold[b] = hold b s.sup.hold[a]) ∧
    (x ≠ .closed → s.topo.coupler[k] ≠ .closed →
      t.reg.list = s.reg.list ∧ t.sup.hold = s.sup.hold ∧
        ∀ g : Group, (t.est[g]).value = (s.est[g]).value ∧ (t.est[g]).state = (s.est[g]).state) ∧
    (∀ d ∈ s.seq.decisions, ∀ q ∈ d.marks,
      ∃ d' ∈ t.seq.decisions, d'.coil = d.coil ∧ d'.marks = d.marks.filter (fun r => decide (t.topo.groupOf[r] = t.topo.groupOf[q]))) ∧
    (∀ d' ∈ t.seq.decisions,
      ∃ d ∈ s.seq.decisions, d'.coil = d.coil ∧
        ∃ q ∈ d.marks, d'.marks = d.marks.filter (fun r => decide (t.topo.groupOf[r] = t.topo.groupOf[q]))) ∧
    (∀ l h : TransitionList, l.entries.Pairwise (fun e f => e.order ≤ f.order) →
      ∃ all : List ListEntry, all.Perm (l.entries ++ h.entries) ∧ all.Pairwise (fun e f => e.order ≤ f.order) ∧
        mergeLists l h = ⟨all.take 8, l.overflow || h.overflow || decide (8 < all.length)⟩)

/-- What a coupler change does in the sequencer (R30, R39, R45, R46, R48, R51), group a holding section k and group b section k + 1:
a cycle in flight in either ends as ABORTED_TOPOLOGY with its record in the ring, its lead's injector off, its lock clear, its
periodic timer restarted and its machine WAITING or IDLE by the flag; every other injector and machine stands. The switching delay
of each of the two that is in use after the change restarts, or sets the flag when T_switch is 0. The machine of b, when a merge
puts it out of use, is at rest, and when a split brings it into use, is in IDLE with its periodic timer started. The part has left
STARTING. The events come in this order: GROUP_CHANGE of a, and of b in a split (R31); CYCLE_ABORTED of the cycles; in a merge STALE
of a where its flag changes, STALE 0 of b where it was set, and ESTIMATE MERGED of a (R77, R80); in a split STALE 0 of a where the
flag goes, STALE 1 of b where it comes, and ESTIMATE SPLIT of a and then of b (R77, R81); then only MOVE_DONE and RANGE_LIMIT of the
drives and the planner. That the record and the abort of a come before those of b is log entry 42, the order of the blocks log entry
9, and STALE 0 before ESTIMATE SPLIT log entry 50 (DESIGN CHOICE); that b raises STALE 0, after that of a, is log entry 24, that
ESTIMATE carries the state as written, before freezing acts, log entry 38, and that the age of STALE 1 is rounded, log entry 18
(DEDUCED). -/
def Obligations.CouplerChangesAbortAndRetriggerTheGroups : Prop :=
  ∀ (k : Coupler) (x : CouplerState) (s : State), topologyLaw s = true → availabilityLaw s = true → useLaw s = true →
    heldLaw s = true → s.runState ≠ .starting → s.topo.coupler[k] ≠ x →
    let t := changeTopology (fun u => { u with coupler := u.coupler.set k x }) s
    let a := s.topo.groupOf[k.castSucc]
    let b : Group := k.succ
    let flies : Group → Capture → Prop := fun g c => (s.seq.machine[g]).capture = some c ∧ (s.seq.machine[g]).state.inFlight = true
    let periodic : Option Nat := if s.settings.periodic = 0 then none else some (s.settings.periodic * 1000)
    let rest : CycleMachine := ⟨.idle, false, none, none, false, none⟩
    let ended : Group → CycleMachine := fun g =>
      let m := s.seq.machine[g]
      if m.capture.isSome = true ∧ m.state.inFlight = true then
        ⟨if m.flag = true then .waiting else .idle, m.flag, periodic, m.switching, false, none⟩
      else m
    let record : Group → List HistoryRecord := fun g =>
      match (s.seq.machine[g]).capture with
      | some c =>
        if (s.seq.machine[g]).state.inFlight = true then
          [captureRecord c .abortedTopology (some (s.seq.machine[g]).state) c.quality none none none s]
        else []
      | none => []
    (∀ g : Group, g ≠ a → g ≠ b → t.seq.machine[g] = s.seq.machine[g]) ∧
    t.seq.machine[a] = switched s.settings.tSwitch (ended a) ∧
    (x = .closed → t.seq.machine[b] = rest) ∧
    (s.topo.coupler[k] = .closed → t.seq.machine[b] = switched s.settings.tSwitch { rest with periodic := periodic }) ∧
    (x ≠ .closed → s.topo.coupler[k] ≠ .closed → t.seq.machine[b] = switched s.settings.tSwitch (ended b)) ∧
    (∀ (g : Group) (c : Capture), g = a ∨ g = b → flies g c →
      t.seq.injector[c.lead] =
        { s.seq.injector[c.lead] with enable := false, phase180 := false, level := (s.seq.injector[c.lead]).effective }) ∧
    (∀ c : Coil, (∀ (g : Group) (f : Capture), g = a ∨ g = b → flies g f → f.lead ≠ c) → t.seq.injector[c] = s.seq.injector[c]) ∧
    t.ring = (record a ++ record b).foldl (fun h r => h.append r) s.ring ∧
    (let sections : Topology → Group → List Section := fun u g =>
       ([0, 1, 2, 3] : List Section).filter (fun q => decide (u.groupOf[q] = g))
     let change : Group → Event := fun g =>
       (.groupChange, some g.val,
         [some (maskOf (sections s.topo a)), some (maskOf (sections t.topo g)), some (s.topo.group[a]).members.length,
           some (t.topo.group[g]).members.length])
     let aborts := abortEvents a .abortedTopology s ++ abortEvents b .abortedTopology s
     let merged := mergeEstimates s.est[a] s.est[b]
     let sides := splitEstimates s.est[a] (splitSum s (sections t.topo a)) (splitSum s (sections t.topo b))
     let first : List Event :=
       if x = .closed then
         [change a] ++ aborts ++ staleEvents a (s.est[a]).stale merged ++ staleEvents b (s.est[b]).stale Estimate.reset ++
           [estimateEvent a merged 5]
       else if s.topo.coupler[k] = .closed then
         [change a, change b] ++ aborts ++ staleEvents a (s.est[a]).stale sides.1 ++ staleEvents b false sides.2 ++
           [estimateEvent a sides.1 6, estimateEvent b sides.2 6]
       else aborts
     ∃ later : List Event, t.events = afterEvents (first ++ later) s ∧
       (∀ e ∈ later, e.1 = .moveDone ∨ e.1 = .rangeLimit) ∧
       (s.runState = .setup → (∀ c : Coil, (s.drive[c]).state.running = false) →
         (∀ g : Group, (s.planner.record[g]).range = .clear) → later = []))

/-- The record of a merge (R80): two valued estimates give the sums, set to 65535 when above, as PROVISIONAL, the earlier accepted
time, the greater age and either stale flag; otherwise NONE with nothing held; FROZEN over that state when either was FROZEN;
candidate, count, jump reference and last cycle are gone and the change mark is set. That the last accepted time, the age and the
coil current of the last accepted cycle are absent when either old one is, is log entry 25 (DEDUCED). The records of a split (R81):
a valued parent with known sums above 0 on both sides is divided by them, I_C of at least 1 on each side; otherwise both sides are
NONE. The contribution sum of a side (R98): the sum over its defined IN feeders, unknown when one of theirs is. -/
def Obligations.MergeAndSplitFormTheEstimates : Prop :=
  (∀ lo hi : Estimate,
     let m := mergeEstimates lo hi
     let frozenOver := lo.state = .frozen ∨ hi.state = .frozen
     (∀ a b, lo.value = some a → hi.value = some b →
       m =
         { Estimate.reset with
           state := if frozenOver then .frozen else .provisional
           returnState := if frozenOver then some .provisional else none
           value := some ⟨min 65535 (a.iC + b.iC), min 65535 (a.iG + b.iG)⟩
           lastAccepted := lo.lastAccepted.bind (fun x => hi.lastAccepted.map (fun y => min x y))
           age := lo.age.bind (fun x => hi.age.map (fun y => max x y))
           lastCoilCurrent := lo.lastCoilCurrent.bind (fun x => hi.lastCoilCurrent.map (fun y => min 65535 (x + y)))
           stale := lo.stale || hi.stale
           changeMark := true }) ∧
     (lo.value = none ∨ hi.value = none →
       m =
         { Estimate.reset with
           state := if frozenOver then .frozen else .empty
           returnState := if frozenOver then some .empty else none
           changeMark := true })) ∧
  (∀ (parent : Estimate) (low high : Option Nat),
     let sides := splitEstimates parent low high
     let emptySide : Estimate := { Estimate.reset with changeMark := true }
     (∀ v l h, parent.value = some v → low = some l → high = some h → 0 < l → 0 < h →
       let c := (roundDiv ((v.iC : Int) * l) (l + h)).toNat
       let d := (roundDiv ((v.iG : Int) * l) (l + h)).toNat
       let side : Nat → Nat → Estimate := fun iC iG =>
         { Estimate.reset with
           state := .provisional, value := some ⟨max 1 iC, iG⟩, lastAccepted := parent.lastAccepted, age := parent.age
           stale := parent.stale, changeMark := true }
       sides = (side c d, side (v.iC - c) (v.iG - d)) ∧ c ≤ v.iC ∧ d ≤ v.iG) ∧
     (parent.value = none ∨ low = none ∨ high = none ∨ low = some 0 ∨ high = some 0 → sides = (emptySide, emptySide))) ∧
  (∀ (side : List Section) (s : State),
     let counted := s.reg.feeder.toList.filter (fun f => f.defined && decide (f.state = .into) && decide (f.sect ∈ side))
     splitSum s side =
       if ∃ f ∈ counted, f.contribution = none then none
       else some ((counted.map (fun f => f.contribution.getD 0)).foldl (· + ·) 0))

/-- COIL_CONFIG (R22, R104) in SETUP with the drive at rest: a coil declared present takes type, section and injector, an ABSENT one
becoming MANUAL (PARKED under an active COIL_PARK input) and an AUTO one whose type changes becoming MANUAL; a changed type empties
the table; a coil declared not present becomes ABSENT. The record in force changes nothing. COIL_MODE (R23): the cases of its table
in their order, and on OK the coil takes the mode, the topology keeping its law; the mode in force changes nothing. What a changed
mode does to the coil's drive (R135): AUTO to MANUAL clears an AUTO pending target and interrupts an AUTO move, MANUAL to AUTO the
MANUAL ones, and to PARKED clears any pending target and interrupts any move, a PENDING drive going to IDLE; of a change to AUTO in
RUN, which has the group planned, the statement says that no MANUAL target is left. A coil that leaves PARKED takes its position
input as it stands, and its drive is in FAULT with FEEDBACK without a valid report (R120). In SETUP every other drive stands.
COIL_CONFIG acts in the same way on the drive at rest of the coil it configures: one that it makes ABSENT keeps its drive; one that
it brings back as MANUAL, or whose type it changes, takes its position input as it stands, judged by the new type, and is in FAULT
with FEEDBACK without a valid report unless it is PARKED; any other keeps its drive, but that a pending AUTO target goes with the
mode AUTO. The drives' clauses of COIL_MODE hold where the topology keeps its law, the other coils' where no drive runs in an open
episode (both invariants). Each is one topology change of the coil's record: what it does in the groups is the statement
CoilRecordChangesAbortAndRetriggerTheGroups. The replies to coil numbers out of range are log entry 26 (DEDUCED). -/
def Obligations.CoilConfigAndCoilModeWriteTheRecord : Prop :=
  (∀ (tag : Nat) (c : Coil) (ty : CoilType) (q : Section) (inj : Bool) (s : State), s.link.slots.length < 2 →
     let old := s.topo.coil[c]
     let parked := ∃ i : ContactNo, (s.contacts.input[i]).assignment = .coilPark c ∧ (s.contacts.input[i]).active = some true
     let reply : CoilRecord → List Byte := fun r =>
       be 1 c ++ be 1 (if r.mode = .absent then 0 else 1) ++ be 1 (if r.type = .plunger then 0 else 1) ++ be 1 r.sect ++
         be 1 (if r.injector = true then 1 else 0) ++ be 1 r.mode.code
     let present := Instr.coilConfig tag c 1 (if ty = .plunger then 0 else 1) q (if inj = true then 1 else 0)
     (s.runState = .setup → (s.drive[c]).state = .idle ∨ (s.drive[c]).state = .fault →
       (∀ mode : CoilMode,
         (old.mode = .absent → parked → mode = .parked) → (old.mode = .absent → ¬ parked → mode = .manual) →
         (old.mode = .auto → mode = if old.type = ty then .auto else .manual) →
         (old.mode = .parked ∨ old.mode = .manual → mode = old.mode) →
           ((⟨ty, q, inj, mode⟩ : CoilRecord) = old → exec present s = .next (withReply 0x11 tag .ok (reply old) s)) ∧
           ((⟨ty, q, inj, mode⟩ : CoilRecord) ≠ old →
             ∃ t, exec present s = .next (withReply 0x11 tag .ok (reply ⟨ty, q, inj, mode⟩) t) ∧
               t = changeTopology (fun u => { u with coil := u.coil.set c ⟨ty, q, inj, mode⟩ })
                 (if old.type = ty then s
                  else
                    { s with
                      planner := { s.planner with table := s.planner.table.set c [] }
                      link := { s.link with load := if s.link.load.map TableLoad.coil = some c then none else s.link.load } }) ∧
               (∀ c' : Coil, c' ≠ c → topologyLaw s = true →
                 ((s.drive[c']).state.running = true → episodeCondition s (s.topo.groupOfCoil c') = false) →
                   t.drive[c'] = s.drive[c']) ∧
               (let d := s.drive[c]
                let e : Drive :=
                  if old.mode = .auto ∧ mode = .manual ∧ d.pending.map Target.origin = some .auto then { d with pending := none } else d
                let taken := old.type ≠ ty ∨ (old.mode = .absent ∧ mode = .manual)
                let x := reportOf ty d.inputCode d.inputValid
                (¬ taken → t.drive[c] = e) ∧
                (∀ p, taken → x = some p → t.drive[c] = { e with position := some p, feedback := true }) ∧
                (taken → x = none → mode = .parked ∨ d.state = .fault → t.drive[c] = { e with feedback := false }) ∧
                (taken → x = none → mode ≠ .parked → d.state = .idle →
                  t.drive[c] =
                    { e with
                      feedback := false, state := .fault, raiseOut := false, lowerOut := false, travel := none, step := none
                      delay := none, coast := none, pending := none, running := none, stopReason := none, phase := none
                      stepStart := none, best := none
                      last :=
                        some ⟨.fault, some .feedback, d.position, d.running.map Target.pos, d.running.map Target.origin, s.time⟩ })) ∧
               t.topo.coil = s.topo.coil.set c ⟨ty, q, inj, mode⟩ ∧ t.topo.coupler = s.topo.coupler ∧ topologyLaw t = true ∧
               t.planner.table = (if old.type = ty then s.planner.table else s.planner.table.set c []) ∧
               t.link.load = (if old.type ≠ ty ∧ s.link.load.map TableLoad.coil = some c then none else s.link.load) ∧
               t.runState = s.runState ∧ t.settings = s.settings ∧ t.contacts = s.contacts ∧ t.reg.feeder = s.reg.feeder ∧
               t.planner.setpoint = s.planner.setpoint ∧ t.time = s.time)) ∧
       (∀ a b d : Nat,
         (old.mode = .absent → exec (.coilConfig tag c 0 a b d) s = .next (withReply 0x11 tag .ok (reply old) s)) ∧
         (old.mode ≠ .absent →
           ∃ t, exec (.coilConfig tag c 0 a b d) s = .next (withReply 0x11 tag .ok (reply { old with mode := .absent }) t) ∧
             t = changeTopology (fun u => { u with coil := u.coil.set c { old with mode := .absent } }) s ∧
             t.drive[c] = s.drive[c] ∧
             (∀ c' : Coil, c' ≠ c → topologyLaw s = true →
               ((s.drive[c']).state.running = true → episodeCondition s (s.topo.groupOfCoil c') = false) →
                 t.drive[c'] = s.drive[c']) ∧
             t.topo.coil = s.topo.coil.set c { old with mode := .absent } ∧ topologyLaw t = true ∧
             t.planner.table = s.planner.table ∧ t.settings = s.settings ∧ t.contacts = s.contacts))) ∧
     (s.runState = .run ∨ (s.runState = .setup ∧ (s.drive[c]).state ≠ .idle ∧ (s.drive[c]).state ≠ .fault) →
       exec present s = .next (withReply 0x11 tag .wrongState (reply old) s)) ∧
     (∀ n : Nat, 4 ≤ n →
       exec (.coilConfig tag n 1 0 0 0) s =
         .next (withReply 0x11 tag .badValue (be 1 n ++ List.replicate 5 0xFF) s) ∧
       exec (.coilConfig tag c 1 0 n 0) s = .next (withReply 0x11 tag .badValue (reply old) s))) ∧
  (∀ (tag : Nat) (c : Coil) (m : CoilMode) (s : State), Taking s → m ≠ .absent →
     let old := (s.topo.coil[c]).mode
     let held := ∃ i : ContactNo, (s.contacts.input[i]).assignment = .coilPark c ∧ (s.contacts.input[i]).active = some true
     let assigned := ∃ i : ContactNo, (s.contacts.input[i]).assignment = .coilPark c
     let free := ¬ held ∧ (m = .parked → ¬ assigned)
     let tabled := s.planner.table[c] ≠ [] ∨ m = .parked ∨ (m = .manual ∧ s.runState = .setup)
     (old = .absent → exec (.coilMode tag c m.code) s = .next (withReply 0x12 tag .wrongState (be 1 c ++ be 1 old.code) s)) ∧
     (old ≠ .absent → ¬ free →
       exec (.coilMode tag c m.code) s = .next (withReply 0x12 tag .assigned (be 1 c ++ be 1 old.code) s)) ∧
     (old ≠ .absent → free → ¬ tabled →
       exec (.coilMode tag c m.code) s = .next (withReply 0x12 tag .noTable (be 1 c ++ be 1 old.code) s)) ∧
     (old ≠ .absent → free → tabled → old = m →
       exec (.coilMode tag c m.code) s = .next (withReply 0x12 tag .ok (be 1 c ++ be 1 m.code) s)) ∧
     (old ≠ .absent → free → tabled → old ≠ m →
       ∃ t, exec (.coilMode tag c m.code) s = .next (withReply 0x12 tag .ok (be 1 c ++ be 1 m.code) t) ∧
         t = changeTopology (fun u => { u with coil := u.coil.set c { s.topo.coil[c] with mode := m } }) s ∧
         t.topo.coil = s.topo.coil.set c { s.topo.coil[c] with mode := m } ∧ t.topo.coupler = s.topo.coupler ∧
         topologyLaw t = true ∧ t.reg.feeder = s.reg.feeder ∧ t.planner.table = s.planner.table ∧
         t.planner.setpoint = s.planner.setpoint ∧ t.contacts = s.contacts ∧ t.settings = s.settings ∧ t.link = s.link ∧
         t.runState = s.runState ∧ t.time = s.time ∧
         (topologyLaw s = true →
          let d := s.drive[c]
          let drops : Option Target → Bool := fun p => p.any (fun q => decide (q.origin = .auto ↔ old = .auto))
          let e : Drive :=
            if m = .parked ∨ drops d.pending = true then
              { d with pending := none, state := if d.state = .pending then .idle else d.state }
            else d
          (old ≠ .parked → m ≠ .auto ∨ s.runState = .setup →
            t.drive[c] =
              if d.state.running = true ∧ (m = .parked ∨ drops d.running = true) then
                (enterStopping c .interrupted (s.setDrive c e)).drive[c]
              else e) ∧
          (old = .manual → m = .auto →
            (∀ p, (t.drive[c]).pending = some p → p.origin = .auto) ∧
              ((t.drive[c]).state.running = true → ∀ p, (t.drive[c]).running = some p → p.origin = .auto)) ∧
          (old = .parked → d.state.running = false → m ≠ .auto ∨ s.runState = .setup →
            let r := reportOf (s.topo.coil[c]).type d.inputCode d.inputValid
            (∀ p, r = some p → t.drive[c] = { d with position := some p, feedback := true }) ∧
            (r = none → d.state = .fault → t.drive[c] = { d with feedback := false }) ∧
            (r = none → d.state ≠ .fault →
              (t.drive[c]).state = .fault ∧ (t.drive[c]).feedback = false ∧ (t.drive[c]).position = d.position ∧
                (t.drive[c]).pending = none ∧ (t.drive[c]).running = none ∧ (t.drive[c]).raiseOut = false ∧
                (t.drive[c]).lowerOut = false ∧
                (t.drive[c]).last =
                  some ⟨.fault, some .feedback, d.position, d.running.map Target.pos, d.running.map Target.origin, s.time⟩))) ∧
         (∀ c' : Coil, c' ≠ c → topologyLaw s = true → s.runState = .setup →
           ((s.drive[c']).state.running = true → episodeCondition s (s.topo.groupOfCoil c') = false) →
             t.drive[c'] = s.drive[c'])) ∧
     (∀ n : Nat, (4 ≤ n → exec (.coilMode tag n m.code) s = .next (withReply 0x12 tag .badValue (be 1 n ++ ([0xFF] : List Byte)) s)) ∧
       (n = 0 ∨ 4 ≤ n → exec (.coilMode tag c n) s = .next (withReply 0x12 tag .badValue (be 1 c ++ be 1 old.code) s))))

/-- What a change of one coil's record does in the groups (R30, R33), the topology keeping its law, be it by COIL_CONFIG, COIL_MODE
or a COIL_PARK input, the part having left STARTING: in each group whose members change, a cycle in flight ends as ABORTED_TOPOLOGY
with its record in the ring (R48, R51), the switching delay restarts (R45, R46), the estimate stays as it was with its change mark
set, an empty quiet history and no armed detection, and is FROZEN exactly when the group is (R55, R76, R79), and an open episode
cancels the hold (R154). The coil's injector becomes available or unavailable (R36), and a cycle it leads in a group that keeps its
members then ends as ABORTED_INJECTOR. Every other estimate and injector stands, and every other machine but for the switching
trigger of a move that ends within the change. The events come in this order: GROUP_CHANGE (R31), CYCLE_ABORTED, INJECTOR,
CYCLE_ABORTED as ABORTED_INJECTOR, then MOVE_DONE, RANGE_LIMIT and the DRIVE_FAULT of the coil; GROUP_CHANGE before the blocks'
events is log entry 9, several CYCLE_ABORTED in increasing group number log entry 42, CYCLE_ABORTED before INJECTOR log entry 49,
and INJECTOR before ABORTED_INJECTOR log entry 41 (DESIGN CHOICE). -/
def Obligations.CoilRecordChangesAbortAndRetriggerTheGroups : Prop :=
  ∀ (c : Coil) (r : CoilRecord) (s : State), topologyLaw s = true → availabilityLaw s = true → heldLaw s = true →
    s.runState ≠ .starting →
    let old := s.topo.coil[c]
    let j := s.seq.injector[c]
    let t := changeTopology (fun u => { u with coil := u.coil.set c r }) s
    let groups : List Group := [0, 1, 2, 3]
    let changed : Group → Bool := fun g => decide ((t.topo.group[g]).members ≠ (s.topo.group[g]).members)
    let sections : Group → List Section := fun g => ([0, 1, 2, 3] : List Section).filter (fun q => decide (s.topo.groupOf[q] = g))
    let available := decide (r.injector = true ∧ (r.mode = .manual ∨ r.mode = .auto) ∧
      ¬ ∃ i : ContactNo, (s.contacts.input[i]).assignment = .injectorFault c ∧ (s.contacts.input[i]).active = some true)
    let ending : Group → Option (CycleOutcome × Capture) := fun g =>
      match (s.seq.machine[g]).capture with
      | none => none
      | some k =>
        if (s.seq.machine[g]).state.inFlight = false then none
        else if changed g = true then some (.abortedTopology, k)
        else if k.lead = c ∧ j.available = true ∧ available = false then some (.abortedInjector, k)
        else none
    let ended : Group → CycleMachine := fun g =>
      let m := s.seq.machine[g]
      match ending g with
      | none => m
      | some x =>
        let flag := m.flag || decide (x.1 = .abortedInjector)
        ⟨if flag = true then .waiting else .idle, flag,
          if s.settings.periodic = 0 then none else some (s.settings.periodic * 1000), m.switching, false, none⟩
    let estimate : Group → Estimate := fun g =>
      let e : Estimate :=
        match ending g with
        | none => s.est[g]
        | some x => { s.est[g] with lastCycle := some (x.1, x.2.quality), early := false, sinceOff := some 0 }
      if changed g = false then e
      else
        let e : Estimate := { e with changeMark := true, quiet := [], armed := false }
        if frozen t g = true then
          if e.state = .frozen then e else { e with state := .frozen, returnState := some e.state }
        else if e.state = .frozen then { e with state := e.returnState.getD .empty, returnState := none }
        else e
    let aborts : Bool → List Event := fun b =>
      (groups.filter (fun g => changed g = b)).flatMap (fun g =>
        match ending g with | some x => abortEvents g x.1 s | none => [])
    let records : Bool → List HistoryRecord := fun b =>
      (groups.filter (fun g => changed g = b)).flatMap (fun g =>
        match ending g with
        | some x => [captureRecord x.2 x.1 (some (s.seq.machine[g]).state) x.2.quality none none none s]
        | none => [])
    let first : List Event :=
      (groups.filter changed).map (fun g =>
          (.groupChange, some g.val,
            [some (maskOf (sections g)), some (maskOf (sections g)), some (s.topo.group[g]).members.length,
              some (t.topo.group[g]).members.length])) ++
        aborts true ++
        (if available = j.available then []
         else
           ([(.injector, some c.val,
             [some (if available = true then 1 else 0), some j.effective, some s.settings.injectorLevel[c], some 1])] : List Event)) ++
        aborts false
    (∀ g : Group,
      t.est[g] = estimate g ∧
      (changed g = true → t.seq.machine[g] = switched s.settings.tSwitch (ended g)) ∧
      (changed g = false →
        t.seq.machine[g] = ended g ∨
          (s.runState = .run ∧ g = s.topo.groupOf[r.sect] ∧ t.seq.machine[g] = switched s.settings.tSwitch (ended g))) ∧
      t.sup.hold[g] = if changed g = true ∧ episodeCondition t g = true then none else s.sup.hold[g]) ∧
    (∀ d : Coil,
      let i : Injector := if d = c then { j with available := available } else s.seq.injector[d]
      t.seq.injector[d] =
        if ∃ g : Group, (ending g).any (fun x => decide (x.2.lead = d)) = true then
          { i with enable := false, phase180 := false, level := i.effective }
        else i) ∧
    t.ring = (records true ++ records false).foldl (fun h x => h.append x) s.ring ∧
    (∃ later : List Event, t.events = afterEvents (first ++ later) s ∧
      (∀ y ∈ later, y.1 = .moveDone ∨ y.1 = .rangeLimit ∨ (y.1 = .driveFault ∧ y.2.1 = some c.val)) ∧
      (s.runState = .setup → (∀ d : Coil, (s.drive[d]).state.running = false) → (s.drive[c]).state ≠ .pending →
        let d := s.drive[c]
        let joins := (r.mode = .manual ∨ r.mode = .auto) ∧
          (r.type ≠ old.type ∨ old.mode = .absent ∨ old.mode = .parked)
        later =
          if joins ∧ reportOf r.type d.inputCode d.inputValid = none ∧ d.state ≠ .fault then
            [(.driveFault, some c.val, [some 1, value d.position, value (d.running.map Target.pos), some d.state.code])]
          else [])) ∧
    t.topo.coil = s.topo.coil.set c r ∧ topologyLaw t = true ∧
    t.reg = s.reg ∧ t.sup = { s.sup with hold := t.sup.hold } ∧ t.settings = s.settings ∧ t.contacts = s.contacts ∧
    t.link = s.link ∧ t.topo.groupOf = s.topo.groupOf ∧ t.topo.coupler = s.topo.coupler ∧ t.time = s.time

/-! ## Drives -/

/-- A new target (R121, R123) of the origin that matches the coil's mode: a drive in IDLE or PENDING takes it as pending and its
gates are tested at once, so that the drive is left as MOVE_START leaves it; a MANUAL start that energizes an output under the lock
aborts the cycle first (R43, R52); in STOPPING it becomes pending; a RUNNING drive keeps its own target, extends its run or is
redirected; any other target is discarded. COIL_MOVE (R122): the target of a MANUAL coil, brought into the table's range, is taken
so, and the reply shows the drive after it; the refusals follow the table of R122. The reply for a coil out of range is log entry
26; that other changes of a gate start a move as a step of their own is log entry 12 (both DEDUCED). -/
def Obligations.CoilMoveTakesAManualTarget : Prop :=
  (∀ (c : Coil) (t : Target) (s : State),
     let d := s.drive[c]
     let g := s.topo.groupOf[(s.topo.coil[c]).sect]
     let mode := (s.topo.coil[c]).mode
     let waiting := s.setDrive c { d with state := .pending, pending := some t }
     let fits := (t.origin = .auto ∧ mode = .auto) ∨ (t.origin = .manual ∧ mode = .manual)
     let contact := fun p : Nat => if p < t.pos then Assignment.limitUp c else Assignment.limitDown c
     let blocked := fun p : Nat =>
       ∃ i : ContactNo, (s.contacts.input[i]).assignment = contact p ∧ (s.contacts.input[i]).active = some true
     (¬ fits ∨ d.state = .fault → newTarget c t s = s) ∧
     (fits → d.state = .idle ∨ d.state = .pending → exec (.moveStart c) waiting = .next (newTarget c t s)) ∧
     (fits → d.state = .stopping → newTarget c t s = s.setDrive c { d with pending := some t }) ∧
     (fits → d.state = .runningUp ∨ d.state = .runningDown →
       (d.running.map Target.pos = some t.pos → newTarget c t s = s) ∧
       (d.running.map Target.pos ≠ some t.pos →
         newTarget c t s =
           if (d.state = .runningUp ∧ ∃ x, d.position = some x ∧ x < t.pos) ∨
               (d.state = .runningDown ∧ ∃ x, d.position = some x ∧ t.pos < x)
           then testStop c (s.setDrive c { d with running := some t, travel := travelTimer s c t.pos })
           else enterStopping c .redirected (s.setDrive c { d with pending := some t }))) ∧
     (∀ p, d.position = some p → mode = .manual ∧ t.origin = .manual → d.state = .idle ∨ d.state = .pending →
       d.interval = none ∧ episodeCondition s g = false → stopTolerance s c < distance p t.pos → ¬ blocked p →
         let u := newTarget c t s
         let a := if (s.seq.machine[g]).lock = true then abortCycle g .abortedMove s else s
         u.seq = a.seq ∧ u.ring = a.ring ∧ u.est = a.est ∧ u.events = a.events ∧ (u.drive[c]).pending = none ∧
           (u.drive[c]).running = some t ∧ (u.drive[c]).state = if p < t.pos then .runningUp else .runningDown)) ∧
  (∀ (tag : Nat) (c : Coil) (p : Nat) (s : State), s.link.slots.length < 2 →
     let mode := (s.topo.coil[c]).mode
     let reply : State → Nat → List Byte := fun t u =>
       be 1 c ++ be 2 u ++ be 1 (t.drive[c]).state.code ++ targetField (t.drive[c]).pending ++ targetField (t.drive[c]).running
     (s.runState ≠ .starting → mode = .manual → (s.drive[c]).state ≠ .fault →
       ∀ range, tableRange s.planner.table[c] = some range → range.1 ≤ range.2 →
         let used := if p < range.1 then range.1 else if range.2 < p then range.2 else p
         let t := newTarget c ⟨used, .manual⟩ s
         exec (.coilMove tag c p) s = .next (withReply 0x13 tag (if used = p then .ok else .clamped) (reply t used) t)) ∧
     (s.runState ≠ .starting → mode = .manual → s.planner.table[c] ≠ [] → (s.drive[c]).state = .fault →
       exec (.coilMove tag c p) s = .next (withReply 0x13 tag .faultActive (reply s p) s)) ∧
     (s.runState ≠ .starting → mode = .manual → s.planner.table[c] = [] →
       exec (.coilMove tag c p) s = .next (withReply 0x13 tag .noTable (reply s p) s)) ∧
     (s.runState ≠ .starting → mode = .auto →
       exec (.coilMove tag c p) s = .next (withReply 0x13 tag .wrongMode (reply s p) s)) ∧
     (s.runState ≠ .starting → mode = .absent ∨ mode = .parked →
       exec (.coilMove tag c p) s = .next (withReply 0x13 tag .wrongState (reply s p) s)) ∧
     (s.runState = .starting → exec (.coilMove tag c p) s = .next (withReply 0x13 tag (.notReady .starting) [] s)) ∧
     (∀ n : Nat, 4 ≤ n →
       exec (.coilMove tag n p) s =
         .next (withReply 0x13 tag .badValue (be 1 n ++ be 2 p ++ List.replicate 7 0xFF) s)))

/-- The entry into STOPPING (R132): both outputs off, the travel, step and delay timers stopped, the stop reason recorded, the coast
timer started with the coast time in force, the running target kept. DELAY_TIMER_EXPIRY, COAST_TIMER_EXPIRY and
INTERVAL_TIMER_EXPIRY (R130, R132, R133): a tapped coil begins its next step, or stops at an active limit contact of its direction;
the end of the coast writes the result of its stop reason and starts the interval timer; an expired interval timer is stopped and no
more. That a PENDING drive starts neither as its interval timer expires nor as its coast ends, MOVE_START being a step of its own,
is log entry 12 (DEDUCED). COIL_STOP (R125) and DRIVE_CLEAR (R139): the effect by the drive's state, and the refusals. A DRIVE_CLEAR
in FAULT plans the group of a member coil; that a coil which is no member plans none is the model's reading (log entry 21). The
replies to coil numbers out of range are log entry 26 (DEDUCED). -/
def Obligations.StopsExpiriesAndClearsMoveTheDrive : Prop :=
  ((∀ (c : Coil) (reason : StopReason) (s : State),
      let d := s.drive[c]
      let stopping : Drive :=
        { d with
          state := .stopping
          raiseOut := false
          lowerOut := false
          travel := none
          step := none
          delay := none
          phase := none
          stepStart := none
          best := none
          stopReason := some reason
          coast := some s.settings.coast[c] }
      (s.settings.coast[c] ≠ 0 → enterStopping c reason s = s.setDrive c stopping) ∧
      (s.settings.coast[c] = 0 → ∀ t, d.running = some t →
        (enterStopping c reason s).drive[c] =
          { stopping with
            state := if d.pending.isSome = true then .pending else .idle
            running := none
            stopReason := none
            coast := none
            interval := if s.settings.moveInterval[c] = 0 then none else some (s.settings.moveInterval[c] * 1000)
            last := some ⟨coastResult reason (withinTolerance (stopTolerance s c) d.position t.pos), none, d.position, some t.pos,
              some t.origin, s.time⟩ })) ∧
   (∀ (c : Coil) (s : State),
      let d := s.drive[c]
      (d.state = .runningUp ∨ d.state = .runningDown → d.delay ≠ none →
        let contact := if d.state = .runningUp then Assignment.limitUp c else Assignment.limitDown c
        let blocked := ∃ i : ContactNo, (s.contacts.input[i]).assignment = contact ∧ (s.contacts.input[i]).active = some true
        (blocked → exec (.delayTimerExpiry c) s = .next (enterStopping c .limit s)) ∧
        (¬ blocked →
          exec (.delayTimerExpiry c) s =
            .next (s.setDrive c
              { d with
                phase := some .step, stepStart := d.position, step := some (s.settings.stepLimit[c] * 1000), delay := none
                raiseOut := decide (d.state = .runningUp), lowerOut := decide (d.state = .runningDown) }))) ∧
      (∀ t r, d.coast ≠ none → d.running = some t → d.stopReason = some r →
        let within := match d.position with | some p => decide (distance p t.pos ≤ stopTolerance s c) | none => false
        let result : MoveOutcome := match r with
          | .reached => if within = true then .done else .offTarget
          | .redirected => .redirected | .limit => .limit | .interrupted => .interrupted | .stopped => .stopped
        ∃ u, exec (.coastTimerExpiry c) s = .next u ∧
          u.drive = s.drive.set c
            { d with
              state := if d.pending = none then .idle else .pending
              running := none, stopReason := none, coast := none
              interval := if s.settings.moveInterval[c] = 0 then none else some (s.settings.moveInterval[c] * 1000)
              last := some ⟨result, none, d.position, some t.pos, some t.origin, s.time⟩ } ∧
          u.events = afterEvent .moveDone (some c) [some result.code, value d.position, some t.pos, some t.origin.code] s ∧
          u = { s with drive := u.drive, events := u.events, seq := { s.seq with machine := u.seq.machine } } ∧
          (s.runState = .setup → u.seq = s.seq) ∧
          (s.runState = .run → (s.topo.coil[c]).mode.member = true →
            u.seq.machine = s.seq.machine.set s.topo.groupOf[(s.topo.coil[c]).sect]
              (switched s.settings.tSwitch s.seq.machine[s.topo.groupOf[(s.topo.coil[c]).sect]]))) ∧
      exec (.intervalTimerExpiry c) s = .next (s.setDrive c { d with interval := none }))) ∧
  (∀ (tag : Nat) (c : Coil) (s : State), Taking s →
     let d := s.drive[c]
     let mode := (s.topo.coil[c]).mode
     (mode ≠ .absent → d.state ≠ .fault →
       (d.state = .idle ∨ d.state = .pending →
         exec (.coilStop tag c) s =
           .next (withReply 0x14 tag .ok (be 1 c ++ be 1 0) (s.setDrive c { d with pending := none, state := .idle }))) ∧
       (d.state = .stopping →
         exec (.coilStop tag c) s = .next (withReply 0x14 tag .ok (be 1 c ++ be 1 4) (s.setDrive c { d with pending := none }))) ∧
       (d.state = .runningUp ∨ d.state = .runningDown →
         ∃ t, exec (.coilStop tag c) s = .next (withReply 0x14 tag .ok (be 1 c ++ be 1 (t.drive[c]).state.code) t) ∧
           t = enterStopping c .stopped (s.setDrive c { d with pending := none }))) ∧
     (mode = .absent → exec (.coilStop tag c) s = .next (withReply 0x14 tag .wrongState (be 1 c ++ be 1 d.state.code) s)) ∧
     (mode ≠ .absent → d.state = .fault →
       exec (.coilStop tag c) s = .next (withReply 0x14 tag .faultActive (be 1 c ++ be 1 5) s)) ∧
     (d.state ≠ .fault → exec (.driveClear tag c) s = .next (withReply 0x15 tag .ok (be 1 c ++ be 1 d.state.code) s)) ∧
     (d.state = .fault → mode = .manual ∨ mode = .auto → d.feedback = false →
       exec (.driveClear tag c) s = .next (withReply 0x15 tag .faultActive (be 1 c ++ be 1 5) s)) ∧
     (d.state = .fault → mode = .manual ∨ mode = .auto → d.feedback = true →
       ∃ t, exec (.driveClear tag c) s = .next (withReply 0x15 tag .ok (be 1 c ++ be 1 (t.drive[c]).state.code) t) ∧
         t = planGroup s.topo.groupOf[(s.topo.coil[c]).sect] (s.setDrive c { d with state := .idle })) ∧
     (d.state = .fault → mode = .absent ∨ mode = .parked →
       exec (.driveClear tag c) s =
         .next (withReply 0x15 tag .ok (be 1 c ++ be 1 0) (s.setDrive c { d with state := .idle }))) ∧
     (∀ n : Nat, 4 ≤ n →
       exec (.coilStop tag n) s = .next (withReply 0x14 tag .badValue (be 1 n ++ ([0xFF] : List Byte)) s) ∧
       exec (.driveClear tag n) s = .next (withReply 0x15 tag .badValue (be 1 n ++ ([0xFF] : List Byte)) s)))

/-! ## Feeders, setpoints and tables -/

/-- FEEDER_DEFINE (R87, R88, R90): a feeder defined for the first time takes section and contribution and is UNKNOWN; a definition
on its section writes a contribution given, and one that gives the contribution in force changes nothing (log entry 22, the model's
reading); a definition on another section, and an undefinition, take a feeder that was IN or OUT away by a transition to UNKNOWN in
the group of its old section; a contact source is then taken afresh, as a transition from UNKNOWN in the group of the new section.
Neither transition adjusts an estimate. BAD_VALUE refuses numbers out of range; the reply for a feeder out of range is log entry 26
(DEDUCED). -/
def Obligations.FeederDefineWritesTheEntry : Prop :=
  ∀ (tag : Nat) (n : FeederNo) (q : Section) (w : Nat) (s : State), Taking s →
    let f := s.reg.feeder[n]
    let reply : State → List Byte := fun t =>
      let e := t.reg.feeder[n]
      be 1 n ++ be 1 ((if e.defined = true then 1 else 0) + (if e.contribution.isSome = true then 2 else 0) +
          (if (t.reg.list[t.topo.groupOf[e.sect]]).overflow = true then 4 else 0)) ++
        be 1 e.sect ++ be 1 e.state.code ++ be 1 e.updates ++ optCurrent e.contribution ++ optCode (e.source.map Fin.val)
    let answers : Instr → State → Prop := fun c t => exec c s = .next (withReply 0x18 tag .ok (reply t) t)
    let left := if f.state = .unknown then s else movedFeeder n .unknown s
    let fromSource : State → State := fun t =>
      match f.source.bind (fun i => (s.contacts.input[i]).active) with
      | none => t
      | some a => movedFeeder n (if a = true then .into else .out) t
    (∀ meaning ∈ ([0, 1, 2] : List Nat),
      let x := if meaning = 0 then f.contribution else if meaning = 1 then some w else none
      let u := if meaning = 0 then f.updates else 0
      (f.defined = false →
        answers (.feederDefine tag n 1 q meaning w)
          (fromSource (s.setFeeder n { f with defined := true, sect := q, state := .unknown, contribution := x, updates := u }))) ∧
      (f.defined = true → f.sect = q → x ≠ f.contribution →
        answers (.feederDefine tag n 1 q meaning w) (s.setFeeder n { f with contribution := x, updates := u })) ∧
      (f.defined = true → f.sect = q → x = f.contribution → answers (.feederDefine tag n 1 q meaning w) s) ∧
      (f.defined = true → f.sect ≠ q →
        answers (.feederDefine tag n 1 q meaning w)
          (fromSource (left.setFeeder n { f with sect := q, state := .unknown, contribution := x, updates := u })))) ∧
    (∀ a b d : Nat,
      (f.defined = false → answers (.feederDefine tag n 0 a b d) s) ∧
      (f.defined = true →
        answers (.feederDefine tag n 0 a b d)
          (left.setFeeder n { f with defined := false, state := .unknown, contribution := none, updates := 0 }))) ∧
    (∀ k : Nat,
      (48 ≤ k → exec (.feederDefine tag k 1 q 0 w) s =
        .next (withReply 0x18 tag .badValue (be 1 k ++ List.replicate 7 0xFF) s)) ∧
      (2 ≤ k → exec (.feederDefine tag n k q 0 w) s = .next (withReply 0x18 tag .badValue (reply s) s)) ∧
      (4 ≤ k → exec (.feederDefine tag n 1 k 0 w) s = .next (withReply 0x18 tag .badValue (reply s) s)) ∧
      (3 ≤ k → exec (.feederDefine tag n 1 q k w) s = .next (withReply 0x18 tag .badValue (reply s) s)))

/-- FEEDER_SET (R89, R91 to R93): a defined feeder without a source takes a new state as one transition: the entry is listed with
the estimate's state and I_C before it, a known contribution pre-tunes the estimate, and the group's switching delay restarts, or
with T_switch 0 it is stopped and the flag set, in SETUP and in RUN, where the topology keeps its law no other machine changing
(R45); a changed value raises ESTIMATE with PRE_TUNED and the record as adjusted (R78), before what the planner and the drives
raise, an order R184 leaves open (log entry 49, DESIGN CHOICE), and nothing else is raised; the state in force changes nothing; an
undefined feeder and one with a source refuse. The pre-tuning adjustment of an estimate (R78): a value moves by the contribution, up
saturating at 65535 and down to no less than 1; a VALID or PROVISIONAL estimate becomes PROVISIONAL, a FROZEN one keeps frozen over
such a state; an estimate in NONE or SETTLING, and a FROZEN one that returns to either, stays as it is. The reply to a feeder number
out of range is log entry 26 (DEDUCED). -/
def Obligations.FeederSetTakesOneTransitionAndPreTunes : Prop :=
  (∀ (tag : Nat) (n : FeederNo) (x : FeederState) (s : State), Taking s →
     let f := s.reg.feeder[n]
     let g := s.topo.groupOf[f.sect]
     let e := s.est[g]
     (f.defined = true → f.source = none → f.state = x →
       exec (.feederSet tag n x.code) s = .next (withReply 0x19 tag .ok (be 1 n ++ be 1 x.code) s)) ∧
     (f.defined = true → f.source = none → f.state ≠ x →
       ∃ t, exec (.feederSet tag n x.code) s = .next (withReply 0x19 tag .ok (be 1 n ++ be 1 x.code) t) ∧
         t.reg.feeder = s.reg.feeder.set n { f with state := x } ∧
         (∀ h : Group, h ≠ g → t.reg.list[h] = s.reg.list[h] ∧ t.est[h] = s.est[h]) ∧
         (∀ entry : ListEntry,
           entry = ⟨n, f.sect, f.state, x, s.time, e.stateBehind, e.value.map Currents.iC,
             if f.state = .unknown ∨ x = .unknown then .nothing
             else match f.contribution with | some c => .preTuned c | none => .learning, s.reg.taken⟩ →
           t.reg.list[g] =
             if (s.reg.list[g]).overflow = true then s.reg.list[g]
             else if (s.reg.list[g]).entries.length < 8 then ⟨(s.reg.list[g]).entries ++ [entry], false⟩
             else { s.reg.list[g] with overflow := true }) ∧
         (f.state = .unknown ∨ x = .unknown → t.est[g] = e) ∧
         (f.state ≠ .unknown → x ≠ .unknown →
           t.est[g] = e.adjusted (decide (x = .into ∧ f.contribution.isSome = true)) (f.contribution.getD 0) (s.seq.machine[g]).lock) ∧
         t.seq = { s.seq with machine := t.seq.machine } ∧
         t.seq.machine[g] = switched s.settings.tSwitch s.seq.machine[g] ∧
         (topologyLaw s = true →
           t.seq.machine = s.seq.machine.set g (switched s.settings.tSwitch s.seq.machine[g])) ∧
         (s.runState = .setup →
           t.seq.machine = s.seq.machine.set g (switched s.settings.tSwitch s.seq.machine[g]) ∧ t.drive = s.drive ∧
             t.planner = s.planner) ∧
         (∃ later : List Event,
           t.events =
               afterEvents ((if (t.est[g]).value = e.value then [] else [estimateEvent g t.est[g] 4]) ++ later) s ∧
             (∀ y ∈ later, y.1 = .moveDone ∨ y.1 = .rangeLimit) ∧ (s.runState = .setup ∨ t.est[g] = e → later = [])) ∧
         t.topo = s.topo ∧ t.settings = s.settings ∧ t.contacts = s.contacts ∧ t.sup = s.sup ∧ t.time = s.time) ∧
     (f.defined = false → exec (.feederSet tag n x.code) s = .next (withReply 0x19 tag .wrongState (be 1 n ++ be 1 f.state.code) s)) ∧
     (f.defined = true → f.source.isSome = true →
       exec (.feederSet tag n x.code) s = .next (withReply 0x19 tag .assigned (be 1 n ++ be 1 f.state.code) s)) ∧
     (∀ k : Nat, 48 ≤ k →
       exec (.feederSet tag k x.code) s = .next (withReply 0x19 tag .badValue (be 1 k ++ ([0xFF] : List Byte)) s))) ∧
  (∀ (add lock : Bool) (c : Nat) (v : Currents) (e : Estimate), e.value = some v →
     let moved := if add then min 65535 (v.iC + c) else max 1 (v.iC - c)
     (e.state = .valid ∨ e.state = .provisional →
       e.adjusted add c lock =
         { e with
           state := .provisional
           value := some ⟨moved, v.iG⟩
           candidate := none
           disagreement := 0
           early := lock }) ∧
     (e.state = .frozen → e.returnState = some .valid ∨ e.returnState = some .provisional →
       e.adjusted add c lock =
         { e with
           returnState := some .provisional
           value := some ⟨moved, v.iG⟩
           candidate := none
           disagreement := 0 })) ∧
  (∀ (add lock : Bool) (c : Nat) (e : Estimate),
     e.state = .empty ∨ e.state = .settling ∨
         (e.state = .frozen ∧ (e.returnState = none ∨ e.returnState = some .empty ∨ e.returnState = some .settling)) →
       e.adjusted add c lock = e)

/-- The register takes a fold's outcome (R95 to R97): an early cycle keeps the list; an ordinary and a confirming one empty it; a
confirming one first corrects a contribution when the list holds exactly one IN↔OUT entry and no overflow, the change mark is clear,
the estimate was VALID before it, and the feeder is still defined, in the entry's new state and in the group. An unknown
contribution becomes the measured change, a known one moves by half the difference and lies between the two, and CONTRIB_UPDATED is
raised. -/
def Obligations.ConfirmingCyclesTeachOneFeeder : Prop :=
  ∀ (g : Group) (iC : Nat) (mark : Bool) (s : State),
    let l := s.reg.list[g]
    let emptied : State → State := fun t => t.setList g ⟨[], false⟩
    let teaches : ListEntry → Prop := fun e =>
      l.entries = [e] ∧ l.overflow = false ∧ mark = false ∧
        ((e.old = .into ∧ e.new = .out) ∨ (e.old = .out ∧ e.new = .into)) ∧ e.estBefore = .valid ∧ e.iCBefore.isSome = true ∧
        (s.reg.feeder[e.feeder]).defined = true ∧ (s.reg.feeder[e.feeder]).state = e.new ∧
        s.topo.groupOf[(s.reg.feeder[e.feeder]).sect] = g
    takeOutcome g .early iC mark s = s ∧
    takeOutcome g .ordinary iC mark s = emptied s ∧
    ((∀ e ∈ l.entries, ¬ teaches e) → takeOutcome g .confirming iC mark s = emptied s) ∧
    (∀ e ∈ l.entries, ∀ before, e.iCBefore = some before → teaches e →
      let f := s.reg.feeder[e.feeder]
      let delta := max before iC - min before iC
      let new := match f.contribution with
        | none => delta
        | some c => ((c : Int) + roundDiv ((delta : Int) - c) 2).toNat
      let count := if f.contribution = none then 1 else min 15 (f.updates + 1)
      takeOutcome g .confirming iC mark s =
          { emptied (s.setFeeder e.feeder { f with contribution := some new, updates := count }) with
            events := afterEvent .contribUpdated (some e.feeder) [some new, value f.contribution, some delta, some count] s } ∧
        ∀ c, f.contribution = some c → min c delta ≤ new ∧ new ≤ max c delta)

/-- SETPOINT (R106, R108): the value, clamped to −200..+300, is written; a changed setpoint of a section that gives its group the
number has the group planned, one of another section plans nothing; the setpoint in force changes nothing. MEASURE (R44): the flag
of the section's group is set, a machine in IDLE goes to WAITING, and the reply gives group, state, flag, lock and the failing start
conditions after the request. The replies out of range are log entry 26, and that MEASURE leaves the machine WAITING where a start
is possible, CYCLE_START being a step of its own, is log entry 12 (both DEDUCED). -/
def Obligations.SetpointPlansAndMeasureSetsTheFlag : Prop :=
  (∀ (tag : Nat) (q : Section) (v : Int) (s : State), Taking s →
     let n : Int := if v < -200 then -200 else if 300 < v then 300 else v
     let st := if n = v then Status.ok else Status.clamped
     let written : State := { s with planner := { s.planner with setpoint := s.planner.setpoint.set q n } }
     (s.planner.setpoint[q] = n → exec (.setpoint tag q v) s = .next (withReply 0x1C tag st (be 1 q ++ signed 2 n) s)) ∧
     (s.planner.setpoint[q] ≠ n → s.topo.groupOf[q] ≠ q ∨ s.runState = .setup ∨ (s.topo.group[q]).held = true →
       exec (.setpoint tag q v) s = .next (withReply 0x1C tag st (be 1 q ++ signed 2 n) written)) ∧
     (s.planner.setpoint[q] ≠ n → s.topo.groupOf[q] = q →
       exec (.setpoint tag q v) s = .next (withReply 0x1C tag st (be 1 q ++ signed 2 n) (planGroup q written))) ∧
     (∀ k : Nat, 4 ≤ k →
       exec (.setpoint tag k v) s = .next (withReply 0x1C tag .badValue (be 1 k ++ ([0xFF, 0xFF] : List Byte)) s))) ∧
  (∀ (tag : Nat) (q : Section) (s : State), Taking s →
     let g := s.topo.groupOf[q]
     let m := s.seq.machine[g]
     exec (.measure tag q) s =
         .next (withReply 0x1D tag .ok
           (be 1 g ++ be 1 (flagged m).state.code ++ be 1 (if m.lock = true then 3 else 1) ++
             be 1 ((if s.runState = .run then 0 else 1) + (if (s.topo.group[g]).held = true then 2 else 0) +
               (if frozen s g = true then 4 else 0) + (if decisionPending s g = true then 8 else 0) +
               (if (s.topo.group[g]).members.any (fun c => (s.drive[c]).state.moving) = true then 16 else 0) +
               (if (s.topo.group[g]).lead = none then 32 else 0)))
           (s.setMachine g (flagged m))) ∧
     (∀ k : Nat, 4 ≤ k → exec (.measure tag k) s = .next (withReply 0x1D tag .badValue [0xFF, 0xFF, 0xFF, 0xFF] s)))

/-- TABLE_OPEN (R177): the load is opened anew for the coil and the count, whatever load was open; a coil or a count out of range
and STARTING leave an open load as it is; that a refusal answers with the window in force, also for a coil out of range, is log
entry 48 (DEDUCED). TABLE_POINTS (R178): the points are written after those held, in the order carried, when they fit; FULL,
NOT_OPEN, BAD_VALUE, NOT_READY and a payload that is not 1 + 4m bytes (BAD_LENGTH) write none. -/
def Obligations.TableOpenAndPointsFillTheLoad : Prop :=
  (∀ (tag : Nat) (s : State), s.link.slots.length < 2 →
     let window : List Byte := match s.link.load with
       | some l => be 1 l.coil ++ be 1 l.count ++ be 1 l.points.length
       | none => [0xFF, 0xFF, 0x00]
     (∀ (c : Coil) (n : Nat), s.runState ≠ .starting → 2 ≤ n → n ≤ 32 →
       exec (.tableOpen tag c n) s =
         .next (withReply 0x30 tag .ok (be 1 c ++ be 1 n ++ be 1 0) { s with link := { s.link with load := some ⟨c, n, []⟩ } })) ∧
     (∀ c n : Nat, 4 ≤ c ∨ n < 2 ∨ 32 < n → exec (.tableOpen tag c n) s = .next (withReply 0x30 tag .badValue window s)) ∧
     (∀ (c : Coil) (n : Nat), s.runState = .starting → 2 ≤ n → n ≤ 32 →
       exec (.tableOpen tag c n) s = .next (withReply 0x30 tag (.notReady .starting) [] s))) ∧
  (∀ (tag : Nat) (ps : List (Nat × Nat)) (s : State), s.link.slots.length < 2 →
     let window : List Byte := match s.link.load with
       | some l => be 1 l.coil ++ be 1 l.count ++ be 1 l.points.length
       | none => [0xFF, 0xFF, 0x00]
     (∀ payload : List Byte, (∀ m rest, payload = m :: rest → rest.length ≠ 4 * m.toNat) →
       dispatch 0x31 tag payload s = withReply 0x31 tag .badLength [] s) ∧
     (ps = [] ∨ 16 < ps.length → exec (.tablePoints tag ps) s = .next (withReply 0x31 tag .badValue window s)) ∧
     (ps ≠ [] → ps.length ≤ 16 →
       (s.runState = .starting → exec (.tablePoints tag ps) s = .next (withReply 0x31 tag (.notReady .starting) [] s)) ∧
       (s.runState ≠ .starting → s.link.load = none →
         exec (.tablePoints tag ps) s = .next (withReply 0x31 tag .notOpen window s)) ∧
       (s.runState ≠ .starting → ∀ l, s.link.load = some l →
         (l.count < l.points.length + ps.length → exec (.tablePoints tag ps) s = .next (withReply 0x31 tag .full window s)) ∧
         (l.points.length + ps.length ≤ l.count →
           exec (.tablePoints tag ps) s =
             .next (withReply 0x31 tag .ok (be 1 l.coil ++ be 1 l.count ++ be 1 (l.points.length + ps.length))
               { s with
                 link := { s.link with
                   load := some { l with points := l.points ++ ps.map (fun p => ⟨p.1, p.2⟩) } } })))))

/-- TABLE_COMMIT (R101, R104, R179): a complete load whose points keep the law of the tables replaces the coil's table whole, and
the load closes; every other case leaves table and load as they are, with the status of R179. The new range reaches the coil's drive
(R137): pending and running targets outside it go to its nearer end, a running target so changed is tested against the stop
condition at once, and no other drive moves in SETUP. -/
def Obligations.TableCommitSwapsAValidLoad : Prop :=
  ∀ (tag : Nat) (s : State), s.link.slots.length < 2 →
    (s.runState = .starting → exec (.tableCommit tag) s = .next (withReply 0x32 tag (.notReady .starting) [] s)) ∧
    (s.runState ≠ .starting → s.link.load = none →
      exec (.tableCommit tag) s = .next (withReply 0x32 tag .notOpen [0xFF, 0xFF, 0x00, 0xFF] s)) ∧
    ∀ l, s.link.load = some l →
      let window := be 1 l.coil ++ be 1 l.count ++ be 1 l.points.length
      let inRange : Nat → Point → Prop := fun i p =>
        1 ≤ p.cur ∧ p.cur ≤ 65535 ∧
          (if (s.topo.coil[l.coil]).type = .plunger then p.pos ≤ 4095 else p.pos = i + 1)
      let good : Nat → Prop := fun i =>
        ∃ p, l.points[i]? = some p ∧ inRange i p ∧ (i = 0 ∨ ∃ q, l.points[i - 1]? = some q ∧ q.pos < p.pos ∧ q.cur < p.cur)
      let d := s.drive[l.coil]
      let bring : Target → Target := fun t =>
        match l.points.head?, l.points.getLast? with
        | some a, some z => { t with pos := if t.pos < a.pos then a.pos else if z.pos < t.pos then z.pos else t.pos }
        | _, _ => t
      let brought := s.setDrive l.coil { d with pending := d.pending.map bring, running := d.running.map bring }
      (s.runState = .run → (s.topo.coil[l.coil]).mode ≠ .parked →
        exec (.tableCommit tag) s = .next (withReply 0x32 tag .wrongState (window ++ ([0xFF] : List Byte)) s)) ∧
      (s.runState = .setup ∨ (s.runState = .run ∧ (s.topo.coil[l.coil]).mode = .parked) → l.points.length ≤ l.count →
        (∀ i, i < l.count → (∀ j, j < i → good j) → ¬ good i →
          exec (.tableCommit tag) s = .next (withReply 0x32 tag (.tableInvalid i) (window ++ be 1 i) s)) ∧
        ((∀ i, i < l.count → good i) →
          ∃ t, exec (.tableCommit tag) s = .next (withReply 0x32 tag .ok (window ++ ([0xFF] : List Byte)) t) ∧
            t.planner.table = s.planner.table.set l.coil l.points ∧ t.link = { s.link with load := none } ∧
            t.topo = s.topo ∧ t.settings = s.settings ∧ t.est = s.est ∧ t.runState = s.runState ∧
            t.planner.setpoint = s.planner.setpoint ∧
            (∀ c : Coil, (t.drive[c]).position = (s.drive[c]).position) ∧
            (s.runState = .setup →
              t.drive =
                if d.running.map bring = d.running then brought.drive
                else (testStop l.coil brought).drive)))

/-! ## Events and notices -/

/-- One arrival at the event unit (R184, R185, R187, R188): the flag is latched always; a masked kind and NOTICE_OVERRUN queue
nothing; a notice joins a queue of fewer than 32, carrying and clearing the overrun mark and starting the hold timer of an empty
queue; with 32 held it is dropped, NOTICE_OVERRUN is latched and the mark is set. EVENTS_CLEAR, NOTICE_MASK and NOTICE_CONFIG (R185,
R186, R188): each writes its own field of the event unit and nothing else, and answers with the fields in force. -/
def Obligations.EventsAreLatchedQueuedAndConfigured : Prop :=
  (∀ (k : EventKind) (subject : Option Nat) (values : List (Option Int)) (s : State),
     let u := s.events
     let t := (raiseEvent k subject values s).events
     let masked := k = .noticeOverrun ∨ u.mask.getLsbD (k.code - 1) = true
     raiseEvent k subject values s = { s with events := t } ∧
     t.mask = u.mask ∧ t.trigger = u.trigger ∧ t.holdTime = u.holdTime ∧
     (∀ i : Nat, i < 16 →
       (t.latched.getLsbD i = true ↔
         u.latched.getLsbD i = true ∨ i = k.code - 1 ∨ (¬ masked ∧ 32 ≤ u.queue.length ∧ i = 15))) ∧
     (masked → t.queue = u.queue ∧ t.hold = u.hold ∧ t.overrun = u.overrun) ∧
     (¬ masked → u.queue.length < 32 →
       t.queue = u.queue ++ [⟨k, u.overrun, s.time, subject, values⟩] ∧ t.overrun = false ∧
         t.hold = (if u.queue = [] then .running u.holdTime else u.hold)) ∧
     (¬ masked → 32 ≤ u.queue.length → t.queue = u.queue ∧ t.hold = u.hold ∧ t.overrun = true)) ∧
  ((∀ (tag k : Nat) (s : State), Taking s →
     exec (.eventsClear tag k) s =
         .next (withReply 0x29 tag .ok (be 2 (s.events.latched &&& ~~~ BitVec.ofNat 16 k).toNat)
           { s with events := { s.events with latched := s.events.latched &&& ~~~ BitVec.ofNat 16 k } }) ∧
     exec (.noticeMask tag k) s =
         .next (withReply 0x2A tag .ok (be 2 (k % 65536)) { s with events := { s.events with mask := BitVec.ofNat 16 k } })) ∧
   (∀ (tag trigger hold : Nat) (s : State), Taking s →
     let used := if hold < 10 then 10 else if 5000 < hold then 5000 else hold
     (trigger ∈ ([1, 4, 8, 16] : List Nat) →
       exec (.noticeConfig tag trigger hold) s =
         .next (withReply 0x2B tag (if used = hold then .ok else .clamped) (be 1 trigger ++ be 2 used)
           { s with events := { s.events with trigger := trigger, holdTime := used } })) ∧
     (trigger ∉ ([1, 4, 8, 16] : List Nat) →
       exec (.noticeConfig tag trigger hold) s =
         .next (withReply 0x2B tag .badValue (be 1 s.events.trigger ++ be 2 s.events.holdTime) s))))

/-! ## The operating state -/

/-- ENTER_SETUP (R195, R47): once all 24 inputs are debounced the run state becomes SETUP and the periodic timer of every group in
use is started; nothing else changes but the spent first-debounce timer. RUN (R196, R108): from SETUP, when every MANUAL or AUTO
coil has a table, the part enters RUN and every group in use that is neither held nor frozen is planned; the lowest coil without a
table refuses; in RUN and in STARTING nothing changes. R196 has the WAITING machines test their start conditions on the entry: here
RUN starts none, the start of a machine that is ready being the step CYCLE_START that follows (log entry 12, DEDUCED); the order in
which the groups are planned is log entry 45: the model's. -/
def Obligations.EnterSetupAndRunMoveTheRunState : Prop :=
  (∀ s : State, s.runState = .starting → (∀ i : ContactNo, (s.contacts.input[i]).level.isSome = true) →
     ∃ t, exec .enterSetup s = .next t ∧ t.runState = .setup ∧
       (∀ g : Group,
         t.seq.machine[g] =
           if s.topo.inUse g = true then
             { s.seq.machine[g] with periodic := if s.settings.periodic = 0 then none else some (s.settings.periodic * 1000) }
           else s.seq.machine[g]) ∧
       t = { s with
         runState := .setup
         seq := { s.seq with machine := t.seq.machine }
         contacts := { s.contacts with startTimer := none } }) ∧
  (∀ (tag : Nat) (s : State), s.link.slots.length < 2 →
     let lacks : Coil → Prop := fun c =>
       ((s.topo.coil[c]).mode = .manual ∨ (s.topo.coil[c]).mode = .auto) ∧ s.planner.table[c] = []
     (s.runState = .setup → (∀ c, ¬ lacks c) →
       ∃ t, exec (.run tag) s = .next (withReply 0x38 tag .ok (be 1 2) t) ∧ t.runState = .run ∧
         t = { s with
           runState := .run
           planner := { s.planner with record := t.planner.record }
           drive := t.drive
           seq := { s.seq with machine := t.seq.machine }
           events := t.events } ∧
         ∀ g : Group,
           (s.topo.groupOf[g] = g → (s.topo.group[g]).held = false → frozen s g = false →
             (t.planner.record[g]).time = some s.time ∧ (t.planner.record[g]).outcome ≠ .notPlanned) ∧
           (s.topo.groupOf[g] ≠ g ∨ (s.topo.group[g]).held = true ∨ frozen s g = true →
             t.planner.record[g] = s.planner.record[g])) ∧
     (s.runState = .setup → ∀ c, lacks c → (∀ d, d < c → ¬ lacks d) →
       exec (.run tag) s = .next (withReply 0x38 tag (.notReady (.coilWithoutTable c)) [] s)) ∧
     (s.runState = .run → exec (.run tag) s = .next (withReply 0x38 tag .ok (be 1 2) s)) ∧
     (s.runState = .starting → exec (.run tag) s = .next (withReply 0x38 tag (.notReady .starting) [] s)))

/-- STOP (R52, R136, R197): in SETUP nothing changes. In RUN the part enters SETUP: every cycle in flight ends as ABORTED_STOP, its
injector off (enable off, phase 0°, the level output at the effective level), its record appended to the ring, its flag kept and its
periodic timer restarted; no drive keeps a pending or a running AUTO target; plan records, estimates' values and conditions stand.
That the records of several groups are appended in increasing group number is the model's choice (log entry 42). -/
def Obligations.StopLeavesRun : Prop :=
  ∀ (tag : Nat) (s : State), Taking s →
    let aborted : Group → Prop := fun g =>
      (s.seq.machine[g]).capture.isSome = true ∧ (s.seq.machine[g]).state.inFlight = true
    let record : Group → Option HistoryRecord := fun g =>
      if (s.seq.machine[g]).state.inFlight = true then
        (s.seq.machine[g]).capture.map (fun k =>
          captureRecord k .abortedStop (some (s.seq.machine[g]).state) k.quality none none none s)
      else none
    (s.runState = .setup → exec (.stop tag) s = .next (withReply 0x39 tag .ok (be 1 1) s)) ∧
    (s.runState = .run →
      ∃ t, exec (.stop tag) s = .next (withReply 0x39 tag .ok (be 1 1) t) ∧ t.runState = .setup ∧
        (∀ g : Group,
          (aborted g →
            t.seq.machine[g] =
              { state := if (s.seq.machine[g]).flag = true then .waiting else .idle
                flag := (s.seq.machine[g]).flag
                periodic := if s.settings.periodic = 0 then none else some (s.settings.periodic * 1000)
                switching := (s.seq.machine[g]).switching
                lock := false
                capture := none }) ∧
          (¬ aborted g → t.seq.machine[g] = s.seq.machine[g] ∧ t.est[g] = s.est[g])) ∧
        (∀ g : Group, ∀ k, (s.seq.machine[g]).capture = some k → aborted g →
          t.est[g] = { s.est[g] with sinceOff := some 0, lastCycle := some (.abortedStop, k.quality), early := false }) ∧
        (∀ c : Coil,
          t.seq.injector[c] =
            if ∃ g : Group, aborted g ∧ (s.seq.machine[g]).capture.map Capture.lead = some c then
              { s.seq.injector[c] with enable := false, phase180 := false, level := (s.seq.injector[c]).effective }
            else s.seq.injector[c]) ∧
        t.ring = ([0, 1, 2, 3] : List Group).foldl
          (fun ring g => match record g with | none => ring | some r => ring.append r) s.ring ∧
        (∀ c : Coil, (t.drive[c]).pending.map Target.origin ≠ some .auto ∧
          ((t.drive[c]).state.running = true → (t.drive[c]).running.map Target.origin ≠ some .auto) ∧
          ((s.drive[c]).pending.map Target.origin ≠ some .auto →
            (s.drive[c]).state.running = false ∨ (s.drive[c]).running.map Target.origin ≠ some .auto →
              t.drive[c] = s.drive[c]) ∧
          ((s.drive[c]).state.running = true → (s.drive[c]).running.map Target.origin = some .auto →
            (t.drive[c]).raiseOut = false ∧ (t.drive[c]).lowerOut = false ∧
              (s.settings.coast[c] ≠ 0 →
                (t.drive[c]).state = .stopping ∧ (t.drive[c]).stopReason = some .interrupted ∧
                  (t.drive[c]).running = (s.drive[c]).running))) ∧
        t.seq.decisions = s.seq.decisions ∧
        t = { s with runState := .setup, seq := t.seq, est := t.est, drive := t.drive, ring := t.ring, events := t.events })

/-- RESTART (R18, R56, R85, R100, R119, R143, R159, R193, R198): machines at rest with periodic timers restarted, injectors off,
estimates NONE, drives IDLE but for FAULT, open episodes RESTARTED, plan records, lists, load and notices empty; settings, tables,
setpoints, topology, feeders, contacts, part time and the episode counter stand, and the run state is SETUP. -/
def Obligations.RestartGivesEveryBlockItsRestartState : Prop :=
  ∀ (tag : Nat) (s : State), Taking s →
    ∃ t, exec (.restart tag) s = .next (withReply 0x3A tag .ok (be 1 1) t) ∧ t.runState = .setup ∧
      (∀ g : Group,
        t.seq.machine[g] = ⟨.idle, false,
          if s.topo.inUse g = true ∧ s.settings.periodic ≠ 0 then some (s.settings.periodic * 1000) else none, none, false, none⟩ ∧
        { t.est[g] with sinceOff := none } = Estimate.reset ∧ t.reg.list[g] = ⟨[], false⟩ ∧
        t.planner.record[g] = PlanRecord.reset ∧ t.sup.watch[g] = ⟨none, none, false⟩ ∧ t.sup.hold[g] = none) ∧
      (∀ c : Coil,
        t.seq.injector[c] =
          ⟨(s.seq.injector[c]).available, (s.seq.injector[c]).effective, false, false, (s.seq.injector[c]).effective⟩ ∧
        ((s.drive[c]).state = .fault → t.drive[c] = s.drive[c]) ∧
        ((s.drive[c]).state ≠ .fault →
          (t.drive[c]).state = .idle ∧ (t.drive[c]).pending = none ∧ (t.drive[c]).running = none ∧
            (t.drive[c]).raiseOut = false ∧ (t.drive[c]).lowerOut = false ∧ (t.drive[c]).position = (s.drive[c]).position ∧
            (t.drive[c]).feedback = (s.drive[c]).feedback ∧
            ((s.drive[c]).state.moving = true →
              (t.drive[c]).last.map MoveResult.result = some .interrupted ∧ (t.drive[c]).interval = intervalTimer s c) ∧
            ((s.drive[c]).state.moving = false →
              (t.drive[c]).last = (s.drive[c]).last ∧ (t.drive[c]).interval = (s.drive[c]).interval))) ∧
      t.sup.log = s.sup.log.map (fun e =>
        if e.outcome = .opened ∨ e.outcome = .persistent then
          { e with outcome := .restarted, endTime := some s.time, persistence := none }
        else e) ∧
      t.events = { s.events with latched := 0, queue := [], hold := .stopped, overrun := false } ∧
      t.tracker = { s.tracker with history := [], period := none } ∧ t.link = { s.link with load := none } ∧
      t.reg.feeder = s.reg.feeder ∧ t.planner.table = s.planner.table ∧ t.planner.setpoint = s.planner.setpoint ∧
      t.sup.next = s.sup.next ∧ t.seq.decisions = s.seq.decisions ∧ t.topo = s.topo ∧ t.settings = s.settings ∧
      t.contacts = s.contacts ∧ t.acq = s.acq ∧ t.time = s.time ∧ (s.runState = .setup → t.ring = s.ring)

/-- In STARTING no request but IDENT changes anything but its own reply, for a request of the catalogue (R173). While both slots
hold requests every request is lost: nothing changes and no reply is made (R172). -/
def Obligations.RequestsTakenInNoSlotOrInStartingChangeNothing : Prop :=
  (∀ (i : Instr) (kind tag : Nat) (payload : List Byte) (s : State), requestFields i = some (kind, tag, payload) →
     s.runState = .starting → s.link.slots.length < 2 →
       ∃ st result, exec i s = .next (withReply kind tag st result s) ∧ (kind = 0x01 ∨ (st ≠ .ok ∧ st ≠ .clamped))) ∧
  (∀ (i : Instr) (kind tag : Nat) (payload : List Byte) (s : State), requestFields i = some (kind, tag, payload) →
     2 ≤ s.link.slots.length → exec i s = .next s)

/-! ## The link -/

/-- UNKNOWN_KIND (R173) of any kind (log entry 6), and the losses of the receiver: FRAME_DISCARD (R171), INPUT_BUFFER_FULL (R172),
INTER_BYTE_GAP and MISSING_STOP_BIT (R170), which return a receiver inside a frame to HUNT and change nothing else; in which
receiver states each acts is log entry 15 (DEDUCED), and that they do nothing otherwise log entry 5. RECEIVED_BYTE up to the second
check byte (R170, R171): each byte moves the receiver alone and restarts the gap; a length outside 2..1024 and a check that does not
match discard the frame. TRANSMIT_END (R172, R180, R189): the slot of a reply becomes FREE; the transmitter then sends the reply
waiting longest, else the whole notice queue when a frame is ready, else it is free; that it chooses within TRANSMIT_END is log
entry 13. NOTICE_FRAME (R180, R189): a free transmitter with no reply waiting takes the whole queue of a ready frame, and the hold
timer stops; NOTICE_HOLD_EXPIRY (R188): a running hold timer has expired. Neither changes anything otherwise (log entry 5). Log
entries 5, 6 and 13 are the model's choices. -/
def Obligations.ReceiverAndTransmitterMoveFrames : Prop :=
  (((∀ (tag kind : Nat) (s : State), s.link.slots.length < 2 →
      exec (.unknownKind tag kind) s = .next (withReply kind tag .unknownKind [] s)) ∧
    (∀ s : State,
      let hunting : State := { s with link := { s.link with rx := ⟨.hunt, [], 0, none⟩ } }
      exec .frameDiscard s = .next (if s.link.rx.state = .length ∨ s.link.rx.state = .check then hunting else s) ∧
      exec .inputBufferFull s = .next (if s.link.rx.state = .check ∧ 2 ≤ s.link.slots.length then hunting else s) ∧
      exec .interByteGap s = .next (if s.link.rx.state = .hunt then s else hunting) ∧
      exec .missingStopBit s = .next (if s.link.rx.state = .hunt then s else hunting))) ∧
   (∀ (b : Byte) (s : State),
      let r := s.link.rx
      let goes : Receiver → Prop := fun r' => exec (.receivedByte b) s = .next { s with link := { s.link with rx := r' } }
      (r.state = .hunt → b = 0xC3 → goes ⟨.length, [], 0, some 0⟩) ∧
      (r.state = .hunt → b ≠ 0xC3 → exec (.receivedByte b) s = .next s) ∧
      (r.state = .length → r.held = [] → goes ⟨.length, [b], 0, some 0⟩) ∧
      (∀ high, r.state = .length → r.held = [high] →
        (2 ≤ 256 * high.toNat + b.toNat → 256 * high.toNat + b.toNat ≤ 1024 →
          goes ⟨.body, [high, b], 256 * high.toNat + b.toNat, some 0⟩) ∧
        (256 * high.toNat + b.toNat < 2 ∨ 1024 < 256 * high.toNat + b.toNat → goes ⟨.hunt, [], 0, none⟩)) ∧
      (r.state = .body → r.held.length + 1 < r.len + 2 → goes ⟨.body, r.held ++ [b], r.len, some 0⟩) ∧
      (r.state = .body → r.held.length + 1 = r.len + 2 → goes ⟨.check, r.held ++ [b], r.len, some 0⟩) ∧
      (r.state = .check → r.held.length = r.len + 2 → goes ⟨.check, r.held ++ [b], r.len, some 0⟩) ∧
      (∀ counted high, r.state = .check → r.held = counted ++ [high] → counted.length = r.len + 2 →
        256 * high.toNat + b.toNat ≠ (frameCheck counted).toNat → goes ⟨.hunt, [], 0, none⟩))) ∧
  ((∀ s : State,
      let u := s.events
      let ready := u.queue ≠ [] ∧ (u.trigger ≤ u.queue.length ∨ u.hold = .expired)
      (s.link.tx = .free → exec .transmitEnd s = .next s) ∧
      (∀ slots : List Slot,
        (s.link.tx = .reply ∧ ∃ f, s.link.slots = .answered f :: slots) ∨
          ((∃ f, s.link.tx = .notice f) ∧ slots = s.link.slots) →
        ((∃ f, Slot.answered f ∈ slots) →
          exec .transmitEnd s = .next { s with link := { s.link with slots := slots, tx := .reply } }) ∧
        ((∀ f, Slot.answered f ∉ slots) → ready →
          exec .transmitEnd s =
            .next { s with
              link := { s.link with slots := slots, tx := .notice (noticeFrameOf u.queue) }
              events := { u with queue := [], hold := .stopped } }) ∧
        ((∀ f, Slot.answered f ∉ slots) → ¬ ready →
          exec .transmitEnd s = .next { s with link := { s.link with slots := slots, tx := .free } }))) ∧
   (∀ s : State,
      let u := s.events
      let ready := u.queue ≠ [] ∧ (u.trigger ≤ u.queue.length ∨ u.hold = .expired)
      let open_ := s.link.tx = .free ∧ ∀ f, Slot.answered f ∉ s.link.slots
      (open_ → ready →
        exec .noticeFrame s =
          .next { s with
            link := { s.link with tx := .notice (noticeFrameOf u.queue) }
            events := { u with queue := [], hold := .stopped } }) ∧
      (¬ (open_ ∧ ready) → exec .noticeFrame s = .next s) ∧
      ((∃ n, u.hold = .running n) → exec .noticeHoldExpiry s = .next { s with events := { u with hold := .expired } }) ∧
      (u.hold = .stopped ∨ u.hold = .expired → exec .noticeHoldExpiry s = .next s)))

/-- A whole frame on the line does what its command's row does (R170 to R174, R181): for every well-formed request of the catalogue,
the bytes of its frame, taken one by one by a receiver in HUNT with no request waiting, leave the state that the row itself leaves.
That the last byte has the request taken and answered in the same step is log entries 10 and 11 (DEDUCED). The catalogue reads back
what it writes (R174): kind, tag and payload of every well-formed request spell that request. -/
def Obligations.AFrameDoesWhatItsCommandDoes : Prop :=
  (∀ (i : Instr) (kind tag : Nat) (payload : List Byte) (s t : State), i.wellFormed = true →
     requestFields i = some (kind, tag, payload) → s.link.rx = ⟨.hunt, [], 0, none⟩ →
     (∀ slot ∈ s.link.slots, slot.isAnswered = true) → exec i s = .next t →
       ((frame (be 1 kind ++ be 1 tag ++ payload)).map Instr.receivedByte).foldl
         (fun o c => match o with | .next u => exec c u | other => other) (.next s : Host.Outcome State Fault Refusal) = .next t) ∧
  (∀ (i : Instr) (kind tag : Nat) (payload : List Byte), i.wellFormed = true → requestFields i = some (kind, tag, payload) →
     requestOf kind tag payload = .taken i ∧ kind < 256 ∧ tag < 256)

/-! ## Arithmetic, acquisition and the frequency tracker -/

/-- Rounding (R1, R6, R10): to the nearest integer, ties away from zero; the root of a square sum against the halfway point, where
no tie arises; the source's own UREF becomes (round(|R|), 0). -/
def Obligations.ArithmeticRoundsToNearest : Prop :=
  (∀ (n : Int) (d : Nat), 0 < d →
    2 * (roundDiv n d * d - n).natAbs ≤ d ∧ (2 * (roundDiv n d * d - n).natAbs = d → n.natAbs < (roundDiv n d).natAbs * d)) ∧
  (∀ n m : Nat, roundSqrt n = m ↔ (m = 0 ∨ (2 * m - 1) * (2 * m - 1) < 4 * n) ∧ 4 * n < (2 * m + 1) * (2 * m + 1)) ∧
  (∀ r : Phasor, 0 < r.normSq → Phasor.referExact r r = ⟨roundSqrt r.normSq, 0⟩)

/-- CYCLE_BOUNDARY publishes (R3 to R7, R11, R15): phasors scaled by the gains, referred to the UREF of the lowest section whose
magnitude is at least 2000, limited to ±32767, with the SATURATED flags; the offered sample interval count is latched. In STARTING
nothing else of the part changes but the tracker's source, history and FREQ_HELD (R195), whose event comes first. In SETUP and RUN
the estimator's quiet work (R54, R55) is then done for each group in use, and the sequencer's work (R41, R42) for each group in use
before or after the supervisor's tests (R144, R147, R149), those of the four sections before those of the groups in use: what the
statements QuietBoundariesFormTheNaturalDisplacement, CycleAdvancesByBoundariesToItsEnd, SectionTestsFollowTheThresholds and
CrossingsAreReportedAndSettled say of one group or section. Which of the two blocks is first is the command's operand, and the
estimator's place is the model's choice (log entry 8); the increasing numbers are log entry 42 (DESIGN CHOICE). -/
def Obligations.CycleBoundaryPublishesThePhasors : Prop :=
  ∀ (samples : List (List Int)) (first : Bool) (s : State),
    let raw : Channel → List Int := fun ch => samples.getD ch []
    let scaled : Channel → Phasor := fun ch => scaleExact s.settings.gain[ch] (codePhasor (raw ch))
    let limited : Phasor → Phasor := fun p => ⟨min 32767 (max (-32767) p.re), min 32767 (max (-32767) p.im)⟩
    let eng : Channel → Phasor := fun ch => limited (scaled ch)
    ∃ t, exec (.cycleBoundary samples first) s = .next t ∧
      (∀ q : Section, t.tracker.source = some q →
        2000 ≤ (eng (urefChannel q)).magnitude ∧ ∀ r : Section, r < q → (eng (urefChannel r)).magnitude < 2000) ∧
      (t.tracker.source = none → (∀ q : Section, (eng (urefChannel q)).magnitude < 2000) ∧ t.tracker.held = true) ∧
      (t.tracker.source = s.tracker.source → t.tracker.history = s.tracker.history ∧ t.tracker.period = s.tracker.period) ∧
      (t.tracker.source ≠ s.tracker.source → t.tracker.history = [] ∧ t.tracker.period = none) ∧
      t.tracker.fUsed = s.tracker.fUsed ∧ t.tracker.count = s.tracker.count ∧ t.acq.latchedCount = s.tracker.count ∧
      (∀ ch : Channel,
        let referred : Phasor := match t.tracker.source with
          | none => eng ch
          | some q => Phasor.referExact (eng (urefChannel q)) (eng ch)
        t.acq.phasor[ch] = limited referred ∧
        (t.acq.saturated[ch] = true ↔
          (∃ x ∈ raw ch, x = 32767 ∨ x = -32767 ∨ x = -32768) ∨ eng ch ≠ scaled ch ∨ limited referred ≠ referred)) ∧
      t.settings = s.settings ∧ t.topo = s.topo ∧ t.contacts = s.contacts ∧ t.link = s.link ∧ t.runState = s.runState ∧
      t.time = s.time ∧ t.planner.table = s.planner.table ∧ t.planner.setpoint = s.planner.setpoint ∧
      (let published : State :=
        { s with
          acq := t.acq
          tracker := t.tracker
          events := if t.tracker.source = none ∧ s.tracker.held = false then afterEvent .freqHeld none [some 1] s else s.events }
       let groups : List Group := ([0, 1, 2, 3] : List Group).filter (fun g => decide (s.topo.groupOf[g] = g))
       let estimator : State → State := fun u => groups.foldl (fun u g => quietWork g u) u
       let sequencer : State → State := fun u => groups.foldl (fun u g => sequencerWork g u) u
       let supervisor : State → State := fun u =>
         groups.foldl (fun u g => crossingTest g u) (([0, 1, 2, 3] : List Section).foldl (fun u q => sectionTest q u) u)
       (s.runState = .starting → t = published) ∧
       (s.runState ≠ .starting → first = false → t = supervisor (sequencer (estimator published))) ∧
       (s.runState ≠ .starting → first = true → t = sequencer (supervisor (estimator published))))

/-- ZERO_CROSSING and PERIOD_TIMEOUT (R12 to R15): without a source no period is timed; the first crossing starts one; an invalid
period empties the history and sets FREQ_HELD; the fourth valid frequency of a history sets f_used to their mean and the sample
interval count to round(384000000/f_used), and clears FREQ_HELD. That a count beyond the longest period is judged at the crossing is
log entry 14, that a timeout without a period changes nothing log entry 5 (both DESIGN CHOICE); the first crossing and the crossing
without a source are log entry 37 (DEDUCED). -/
def Obligations.ZeroCrossingsTimeTheFrequency : Prop :=
  ∀ (n : Nat) (s : State),
    let k := s.tracker
    let f := (roundDiv 24576000000 n).toNat
    let valid := 0 < n ∧ n ≤ (roundDiv 24576000000 (s.settings.nominal * 1000 - 5000)).toNat ∧
      s.settings.nominal * 1000 - 5000 ≤ f ∧ f ≤ s.settings.nominal * 1000 + 5000
    let kept := if k.history.length < 4 then k.history else k.history.drop 1
    let event : Int → EventUnit := fun v => afterEvent .freqHeld (k.source.map Fin.val) [some v] s
    (k.source = none → exec (.zeroCrossing n) s = .next s) ∧
    (k.source ≠ none → k.period = none → exec (.zeroCrossing n) s = .next { s with tracker := { k with period := some 0 } }) ∧
    (k.source ≠ none → k.period ≠ none →
      (¬ valid →
        exec (.zeroCrossing n) s =
          .next { s with
            tracker := { k with history := [], held := true, period := some 0 }
            events := if k.held = true then s.events else event 1 }) ∧
      (valid → (kept ++ [f]).length ≠ 4 →
        exec (.zeroCrossing n) s = .next { s with tracker := { k with history := kept ++ [f], period := some 0 } }) ∧
      (valid → ∀ a b c : Nat, kept = [a, b, c] →
        let used := (roundDiv ((a : Int) + b + c + f) 4).toNat
        exec (.zeroCrossing n) s =
          .next { s with
            tracker := ⟨k.source, [a, b, c, f], some 0, used, (roundDiv 384000000 used).toNat, false⟩
            events := if k.held = true then event 0 else s.events })) ∧
    (k.period = none → exec .periodTimeout s = .next s) ∧
    (k.period ≠ none →
      exec .periodTimeout s =
        .next { s with
          tracker := { k with history := [], held := true, period := none }
          events := if k.held = true then s.events else event 1 })

/-! ## The injection cycle -/

/-- CYCLE_START (R40): when every start condition holds, a WAITING machine takes the lead coil, latches the effective level,
T_settle and the window, records start, positions and I_L, sets the lock and switches the injector on at 0°; while one fails nothing
changes. -/
def Obligations.CycleStartNeedsEveryCondition : Prop :=
  ∀ (g : Group) (s : State),
    let m := s.seq.machine[g]
    let members := (s.topo.group[g]).members
    let conditions := m.state = .waiting ∧ m.flag = true ∧ s.topo.groupOf[g] = g ∧ s.runState = .run ∧
      (s.topo.group[g]).held = false ∧ frozen s g = false ∧
      (∀ d ∈ s.seq.decisions, ∀ q ∈ d.marks, s.topo.groupOf[q] ≠ g) ∧
      (∀ c ∈ members, (s.drive[c]).state ≠ .runningUp ∧ (s.drive[c]).state ≠ .runningDown ∧ (s.drive[c]).state ≠ .stopping)
    (∀ c : Coil, conditions → (s.topo.group[g]).lead = some c →
      ∃ k : Capture,
        exec (.cycleStart g) s =
          .next { s with
            seq := { s.seq with
              machine := s.seq.machine.set g { m with state := .settleA, flag := false, lock := true, capture := some k }
              injector := s.seq.injector.set c
                { s.seq.injector[c] with enable := true, phase180 := false, level := (s.seq.injector[c]).effective } } } ∧
        k.start = s.time ∧ k.group = g ∧ k.sections = s.topo.sections g ∧ k.lead = c ∧ k.leadSection = (s.topo.coil[c]).sect ∧
        k.level = (s.seq.injector[c]).effective ∧ k.settle = s.settings.tSettle ∧ k.window = s.settings.window ∧
        k.coilCurrent = currentSum s members ∧ k.members = members ∧ k.count = 0 ∧ k.uWindow = [] ∧ k.iWindow = [] ∧
        k.uA = none ∧ k.iA = none ∧ k.uB = none ∧ k.iB = none ∧ k.quality = {} ∧
        (∀ x : Coil, k.positions[x] = if x ∈ members then (s.drive[x]).position else none)) ∧
    (¬ conditions ∨ (s.topo.group[g]).lead = none → exec (.cycleStart g) s = .next s)

/-- A cycle in flight at a boundary (R41, R42): the settle states count T_settle boundaries, the windows take W published phasors of
the lead section's U0 and the lead coil's IINJ; at the end of WINDOW_A the phase flips, and at the end of WINDOW_B the cycle ends.
That SATURATED_INPUT is noted at the end of a window is log entry 27 (DEDUCED). The end of a cycle (R42, R57, R73, R75): the cycle
result of the capture rejects the cycle or is folded into the group's estimate; the lead's injector is off, the lock clear, the
periodic timer restarted, one record of the cycle appended to the ring, and the machine WAITING when its flag is set, else IDLE. An
accepted cycle raises ESTIMATE with the reason its fold gives (R74), UNSTABLE when the count reaches 4 (R67) and STALE 0 when the
flag was set (R73), in this order, which is log entry 43 (DESIGN CHOICE), and then only what the register, the planner and the
drives raise: CONTRIB_UPDATED of a confirming cycle, RANGE_LIMIT and MOVE_DONE, after them (R57). A rejected one raises nothing.
That a boundary runs this for every group in use is the statement CycleBoundaryPublishesThePhasors. -/
def Obligations.CycleAdvancesByBoundariesToItsEnd : Prop :=
  (∀ (g : Group) (k : Capture) (s : State), (s.seq.machine[g]).capture = some k →
     let m := s.seq.machine[g]
     let u := s.acq.phasor[u0Channel k.leadSection]
     let i := s.acq.phasor[iinjChannel k.lead]
     let uFlag := s.acq.saturated[u0Channel k.leadSection]
     let iFlag := s.acq.saturated[iinjChannel k.lead]
     let held := k.quality.freqHeld || s.tracker.held
     let formed : Capture :=
       { k with
         count := 0, uWindow := [], iWindow := [], uSaturated := false, iSaturated := false
         quality := { k.quality with
           freqHeld := held
           saturatedInput := k.quality.saturatedInput || (k.uSaturated || uFlag) || (k.iSaturated || iFlag) } }
     let goes : CycleState → Capture → Prop := fun x k' =>
       sequencerWork g s = s.setMachine g { m with state := x, capture := some k' }
     (m.state = .settleA → k.count + 1 < k.settle → goes .settleA { k with count := k.count + 1 }) ∧
     (m.state = .settleA → k.settle ≤ k.count + 1 → goes .windowA { k with count := 0 }) ∧
     (m.state = .settleB → k.count + 1 < k.settle → goes .settleB { k with count := k.count + 1 }) ∧
     (m.state = .settleB → k.settle ≤ k.count + 1 → goes .windowB { k with count := 0 }) ∧
     (m.state = .windowA ∨ m.state = .windowB → k.uWindow.length + 1 < k.window →
       goes m.state
         { k with
           uWindow := k.uWindow ++ [u]
           iWindow := k.iWindow ++ [i]
           uSaturated := k.uSaturated || uFlag
           iSaturated := k.iSaturated || iFlag
           quality := { k.quality with freqHeld := held } }) ∧
     (m.state = .windowA → k.window ≤ k.uWindow.length + 1 →
       let k' := { formed with uA := some (windowPhasor (k.uWindow ++ [u])), iA := some (windowPhasor (k.iWindow ++ [i])) }
       sequencerWork g s =
         (s.setMachine g { m with state := .settleB, capture := some k' }).setInjector k.lead
           { s.seq.injector[k.lead] with phase180 := true }) ∧
     (m.state = .windowB → k.window ≤ k.uWindow.length + 1 →
       let k' := { formed with uB := some (windowPhasor (k.uWindow ++ [u])), iB := some (windowPhasor (k.iWindow ++ [i])) }
       sequencerWork g s = endCycle g k' (s.setMachine g { m with state := .windowB, capture := some k' }))) ∧
  (∀ (g : Group) (k : Capture) (s : State),
     let t := endCycle g k s
     let m := t.seq.machine[g]
     let zero : Phasor := ⟨0, 0⟩
     let result := cycleResult s.settings.uMin k.coilCurrent (k.uA.getD zero) (k.iA.getD zero) (k.uB.getD zero) (k.iB.getD zero) k.quality
     let e : Estimate := { s.est[g] with sinceOff := some 0 }
     m.capture = none ∧ m.lock = false ∧
       m.periodic = (if s.settings.periodic = 0 then none else some (s.settings.periodic * 1000)) ∧
       m.state = (if m.flag = true then .waiting else .idle) ∧
       ((s.seq.machine[g]).flag = true → m.flag = true) ∧
       t.seq.injector[k.lead] =
         { s.seq.injector[k.lead] with enable := false, phase180 := false, level := (s.seq.injector[k.lead]).effective } ∧
       (∀ h : Group, h ≠ g → t.est[h] = s.est[h] ∧ t.reg.list[h] = s.reg.list[h]) ∧
       (∃ r : HistoryRecord, t.ring = s.ring.append r ∧ r.start = k.start ∧
         r.finish = s.time ∧ r.group = k.group ∧ r.sections = k.sections ∧ r.lead = k.lead ∧ r.level = k.level ∧
         r.coilCurrent = k.coilCurrent ∧ r.abortState = none ∧ r.uA = k.uA ∧ r.iA = k.iA ∧ r.uB = k.uB ∧ r.iB = k.iB ∧
         r.fUsed = s.tracker.fUsed ∧
         (result.1 = none → r.outcome = .rejected ∧ r.quality = result.2 ∧ r.result = none ∧ r.after = none ∧ r.detuning = none) ∧
         (∀ x, result.1 = some x →
           let f := foldResult s.settings.stepThreshold s.settings.blend x.currents e
           r.outcome = .accepted ∧ r.result = some x ∧ r.after = some (f.est.state, f.est.value) ∧
             r.quality = { result.2 with outlier := f.outlier, step := f.step, provisionalConfirm := f.confirm } ∧
             r.detuning = f.est.value.map (fun v => detuning v (groupCurrent s g)))) ∧
       (result.1 = none →
         t.est[g] = { e with lastCycle := some (.rejected, result.2), early := false } ∧
           t.events = s.events ∧ t.reg = s.reg ∧ t.drive = s.drive ∧ t.planner = s.planner) ∧
       (∀ x, result.1 = some x →
         let f := foldResult s.settings.stepThreshold s.settings.blend x.currents e
         t.est[g] =
             { f.est with
               lastAccepted := some s.time
               age := some 0
               stale := false
               lastCoilCurrent := some k.coilCurrent
               jumpReference := some x.uNat
               armed := true
               changeMark := decide (f.kind = .early) && (s.est[g]).changeMark
               lastCycle := some (.accepted, { result.2 with outlier := f.outlier, step := f.step, provisionalConfirm := f.confirm })
               early := false } ∧
           t.reg.list[g] = (if f.kind = .early then s.reg.list[g] else ⟨[], false⟩) ∧
           (f.followUp = true → s.runState ≠ .starting → m.flag = true) ∧
           (let reason : EstReason → Nat := fun y =>
              match y with | .settled => 1 | .step => 2 | .confirmed => 3 | .preTuned => 4 | .merged => 5 | .split => 6
            let estimates : List Event := f.reason.toList.map (fun y => estimateEvent g f.est (reason y))
            let unstables : List Event :=
              if f.unstable = true then
                [(.unstable, some g.val, [some 4, f.est.candidate.map (fun c => Int.ofNat c.iC),
                  f.est.value.map (fun v => Int.ofNat v.iC), some f.est.state.code])]
              else []
            ∃ later : List Event,
              t.events = afterEvents (estimates ++ unstables ++ staleEvents g (s.est[g]).stale { f.est with stale := false } ++ later) s ∧
                (∀ y ∈ later, y.1 = .moveDone ∨ y.1 = .rangeLimit ∨ (y.1 = .contribUpdated ∧ f.kind = .confirming)) ∧
                (s.runState ≠ .run → f.kind ≠ .confirming → later = []))))

/-- Every abort (R48 and the table of section 3.5): injector off, lock clear, the record of the partial capture, CYCLE_ABORTED, the
periodic timer restarted, and WAITING or IDLE by the flag, which ABORTED_INJECTOR alone sets; with no cycle in flight nothing
changes. -/
def Obligations.AbortEndsTheCycleInFlight : Prop :=
  ∀ (g : Group) (o : CycleOutcome) (s : State),
    let m := s.seq.machine[g]
    let flag := m.flag || decide (o = .abortedInjector)
    (m.capture = none ∨ m.state.inFlight = false → abortCycle g o s = s) ∧
    (∀ k, m.capture = some k → m.state.inFlight = true →
      let t := abortCycle g o s
      t.seq.machine =
          s.seq.machine.set g
            { state := if flag = true then .waiting else .idle
              flag := flag
              periodic := if s.settings.periodic = 0 then none else some (s.settings.periodic * 1000)
              switching := m.switching
              lock := false
              capture := none } ∧
        t.seq.injector =
          s.seq.injector.set k.lead
            { s.seq.injector[k.lead] with enable := false, phase180 := false, level := (s.seq.injector[k.lead]).effective } ∧
        t.est =
          s.est.set g { s.est[g] with sinceOff := some 0, lastCycle := some (o, k.quality), early := false } ∧
        t.events = afterEvent .cycleAborted (some g) [some o.code, some k.lead.val, some m.state.code, some k.level] s ∧
        (∃ r : HistoryRecord, t.ring = s.ring.append r ∧ r.outcome = o ∧ r.abortState = some m.state ∧ r.start = k.start ∧
          r.finish = s.time ∧ r.quality = k.quality ∧ r.uA = k.uA ∧ r.iA = k.iA ∧ r.uB = k.uB ∧ r.iB = k.iB ∧
          r.result = none ∧ r.after = none) ∧
        t = { s with seq := { s.seq with machine := t.seq.machine, injector := t.seq.injector },
                     est := t.est, events := t.events, ring := t.ring })

/-- The natural displacement at a boundary (R54, R55): a boundary is quiet when no injector of the group is on and T_settle
boundaries have passed since one was switched off, the boundary being tested counted among them (log entry 17, DEDUCED); a quiet
boundary appends the published U0 of the lowest section, the newest 32 kept, and any other empties the history. When the window
phasor of the newest W departs from the jump reference by more than the threshold, with detection armed and the group neither held
nor frozen, detection is disarmed and a switching trigger is sent. -/
def Obligations.QuietBoundariesFormTheNaturalDisplacement : Prop :=
  ∀ (g : Group) (s : State), s.runState ≠ .starting →
    let e := s.est[g]
    let since := e.sinceOff.map (· + 1)
    let on := ∃ c : Coil, (s.seq.injector[c]).enable = true ∧ s.topo.groupOf[(s.topo.coil[c]).sect] = g
    let quiet := ¬ on ∧ since.all (fun n => decide (s.settings.tSettle ≤ n)) = true
    let history := (if e.quiet.length < 32 then e.quiet else e.quiet.drop 1) ++ [s.acq.phasor[u0Channel g]]
    let newest := windowPhasor (history.drop (history.length - s.settings.window))
    let jump := e.armed = true ∧ s.settings.window ≤ history.length ∧
      e.jumpReference.any (fun r => decide (s.settings.jump < Phasor.magnitude ⟨newest.re - r.re, newest.im - r.im⟩)) = true ∧
      (s.topo.group[g]).held = false ∧ frozen s g = false
    (¬ quiet → quietWork g s = s.setEst g { e with sinceOff := since, quiet := [] }) ∧
    (quiet → ¬ jump → quietWork g s = s.setEst g { e with sinceOff := since, quiet := history }) ∧
    (quiet → jump →
      quietWork g s =
        { s with
          est := s.est.set g { e with sinceOff := since, quiet := history, armed := false }
          seq := { s.seq with machine := s.seq.machine.set g (switched s.settings.tSwitch s.seq.machine[g]) } })

/-- The expiries of a group's timers: SWITCHING_DELAY_EXPIRY and PERIODIC_TIMER_EXPIRY (R44, R45, R47) stop their timer and set the
flag; POST_FAULT_HOLD_EXPIRY (R151) ends the hold, unfreezes the estimate and sets the flag. That the machine stays WAITING where
every start condition holds, CYCLE_START being a step of its own, is log entry 12 (DEDUCED). An expiry whose timer is stopped
changes nothing (log entry 5, the model's choice). AGE_TIMER_EXPIRY (R77): the estimate of a group in use that holds a value becomes
stale and STALE is raised with the value 1 and the age in seconds, rounded as log entry 18 says (DEDUCED). That the age is then
brought to one ms beyond the maximum is the model's choice (log entry 5). TRAVEL_TIMER_EXPIRY and STEP_TIMER_EXPIRY (R129, R130,
R138): a running drive whose timer runs enters FAULT with TIMEOUT; both outputs are off, every timer but the interval timer is
stopped, the targets cleared and the last move result written. A stopped timer changes nothing (log entry 5, the model's choice). -/
def Obligations.TimerExpiriesRaiseFlagsStaleAndFaults : Prop :=
  ((∀ (g : Group) (s : State), s.runState ≠ .starting →
      let m := s.seq.machine[g]
      (m.switching ≠ none → exec (.switchingDelayExpiry g) s = .next (s.setMachine g (flagged { m with switching := none }))) ∧
      (m.periodic ≠ none → exec (.periodicTimerExpiry g) s = .next (s.setMachine g (flagged { m with periodic := none }))) ∧
      (s.sup.hold[g] ≠ none →
        ∃ t, exec (.postFaultHoldExpiry g) s = .next t ∧ t.sup = { s.sup with hold := s.sup.hold.set g none } ∧
          ((s.est[g]).state = .frozen → ∀ x, (s.est[g]).returnState = some x →
            t.est = s.est.set g { s.est[g] with state := x, returnState := none }) ∧
          ((s.est[g]).state ≠ .frozen → t.est = s.est) ∧
          (s.runState = .setup → t = { s with sup := t.sup, est := t.est, seq := t.seq } ∧
            t.seq.machine = s.seq.machine.set g (flagged m)) ∧
          (t.seq.machine[g]).flag = true ∧ t.topo = s.topo ∧ t.settings = s.settings ∧ t.reg = s.reg) ∧
      (m.switching = none → exec (.switchingDelayExpiry g) s = .next s) ∧
      (m.periodic = none → exec (.periodicTimerExpiry g) s = .next s) ∧
      (s.sup.hold[g] = none → exec (.postFaultHoldExpiry g) s = .next s)) ∧
   (∀ (g : Group) (a : Nat) (s : State), (s.est[g]).age = some a → (s.est[g]).stale = false → (s.est[g]).value ≠ none →
      s.topo.groupOf[g] = g →
        let age := max a (s.settings.maxAge * 1000 + 1)
        exec (.ageTimerExpiry g) s =
          .next { s with
            est := s.est.set g { s.est[g] with age := some age, stale := true }
            events := afterEvent .stale (some g) [some 1, some (roundDiv age 1000).toNat] s })) ∧
  (∀ (c : Coil) (s : State),
     let d := s.drive[c]
     let faulted : Drive :=
       { d with
         state := .fault, raiseOut := false, lowerOut := false, travel := none, step := none, delay := none, coast := none
         pending := none, running := none, stopReason := none, phase := none, stepStart := none, best := none
         interval := if s.settings.moveInterval[c] = 0 then none else some (s.settings.moveInterval[c] * 1000)
         last := some ⟨.fault, some .timeout, d.position, d.running.map Target.pos, d.running.map Target.origin, s.time⟩ }
     let becomesFault : Instr → Prop := fun i =>
       ∃ t, exec i s = .next t ∧ t.drive[c] = faulted ∧ t.topo = s.topo ∧ t.est = s.est ∧ t.seq.injector = s.seq.injector ∧
         t.ring = s.ring ∧ t.sup = s.sup ∧
         (s.runState = .setup →
           t = { s with
             drive := s.drive.set c faulted
             events := afterEvent .driveFault (some c)
               [some 2, value d.position, value (d.running.map Target.pos), some d.state.code] s })
     (d.state = .runningUp ∨ d.state = .runningDown →
       (d.travel ≠ none → becomesFault (.travelTimerExpiry c)) ∧ (d.step ≠ none → becomesFault (.stepTimerExpiry c))) ∧
     (d.travel = none → exec (.travelTimerExpiry c) s = .next s) ∧ (d.step = none → exec (.stepTimerExpiry c) s = .next s))

/-! ## Moves -/

/-- MOVE_START (R126, R127): a PENDING drive whose gates hold takes its target; within the tolerance it ends as DONE and at an
active limit contact as LIMIT, with no output energized; otherwise the output of its direction is energized, a plunger starting its
travel timer from the best position, a tapped coil its step timer. While a gate fails nothing changes. -/
def Obligations.MoveStartObeysTheGates : Prop :=
  ∀ (c : Coil) (t : Target) (s : State), (s.drive[c]).state = .pending → (s.drive[c]).pending = some t →
    let d := s.drive[c]
    let g := s.topo.groupOf[(s.topo.coil[c]).sect]
    let gates := d.interval = none ∧ episodeCondition s g = false ∧
      (t.origin = .auto →
        s.runState = .run ∧ (s.topo.group[g]).held = false ∧ frozen s g = false ∧ (s.seq.machine[g]).lock = false)
    (¬ gates → exec (.moveStart c) s = .next s) ∧
    (gates → ∀ p, d.position = some p →
      let near := distance p t.pos ≤ stopTolerance s c
      let up := decide (p < t.pos)
      let contact := if p < t.pos then Assignment.limitUp c else Assignment.limitDown c
      let blocked := ∃ i : ContactNo, (s.contacts.input[i]).assignment = contact ∧ (s.contacts.input[i]).active = some true
      let begun : Drive :=
        { d with
          state := if up then .runningUp else .runningDown, pending := none, running := some t, raiseOut := up, lowerOut := !up }
      (near ∨ blocked →
        ∃ u, exec (.moveStart c) s = .next u ∧
          u.drive = s.drive.set c
            { d with
              state := .idle, pending := none, running := none, stopReason := none, coast := none
              last := some ⟨if near then .done else .limit, none, some p, some t.pos, some t.origin, s.time⟩ } ∧
          u.events = afterEvent .moveDone (some c) [some (if near then 0 else 3), some p, some t.pos, some t.origin.code] s ∧
          u.seq.injector = s.seq.injector ∧ u.ring = s.ring ∧ u.topo = s.topo ∧ u.est = s.est) ∧
      (¬ near → ¬ blocked → (s.seq.machine[g]).lock = false →
        ((s.topo.coil[c]).type = .plunger →
          exec (.moveStart c) s =
            .next (s.setDrive c { begun with best := some p, travel := some (travelLimit s c (distance p t.pos)) })) ∧
        ((s.topo.coil[c]).type = .tapped →
          exec (.moveStart c) s =
            .next (s.setDrive c
              { begun with
                phase := some .step, stepStart := some p, step := some (s.settings.stepLimit[c] * 1000), delay := none }))) ∧
      (¬ near → ¬ blocked → (s.seq.machine[g]).lock = true → t.origin = .manual →
        ∃ u, exec (.moveStart c) s = .next u ∧ u.drive[c] = (beginRun c up t ((abortCycle g .abortedMove s).setDrive c
            { d with pending := none, running := some t })).drive[c] ∧
          u.ring = (abortCycle g .abortedMove s).ring ∧ u.seq = (abortCycle g .abortedMove s).seq))

/-- POSITION_REPORT (R120, R128 to R130): a changed valid report becomes the position, and sets MOVED in the capture of a cycle
whose recorded position of that member it leaves by more than the stop tolerance (R53); a drive that is not running stays. A running
plunger stops as REACHED at or past its target less the tolerance in its direction, is in FAULT with DIRECTION more than 8 counts
behind its best position (the stop is tested first: log entry 28, DEDUCED), and otherwise takes the further position as its best. A
running tapped coil in STEP completes its step at a tap in its direction, to stop as REACHED or to begin the delay, and in DELAY is
tested alike; an inter-step delay of 0 leaves it in DELAY with no time left, the end being the next step (log entry 35, DEDUCED); a
tap against the direction is FAULT with DIRECTION. An invalid report leaves the position and takes the feedback away, which faults a
MANUAL or AUTO coil's drive. -/
def Obligations.PositionReportMovesTheDrive : Prop :=
  ∀ (c : Coil) (p : Nat) (s : State),
    let d := s.drive[c]
    let type := (s.topo.coil[c]).type
    let tol := if type = .plunger then s.settings.plungerTolerance[c] else s.settings.tapTolerance[c]
    let legal : Nat → Prop := fun x => if type = .plunger then x ≤ 4095 else 1 ≤ x ∧ x ≤ 32
    let seen := { d with inputCode := p, inputValid := true, position := some p, feedback := true }
    let observed := observeReport c p (s.setDrive c seen)
    let leaves : State → Prop := fun t => exec (.positionReport c p true) s = .next t
    (observed = { s with drive := s.drive.set c seen, seq := { s.seq with machine := observed.seq.machine } }) ∧
    (∀ g : Group, ∀ k, (s.seq.machine[g]).capture = some k →
      observed.seq.machine[g] =
        { s.seq.machine[g] with
          capture := some { k with
            quality := { k.quality with
              moved := k.quality.moved || (k.members.contains c && k.positions[c].any (fun x => decide (tol < distance p x))) } } }) ∧
    (∀ g : Group, (s.seq.machine[g]).capture = none → observed.seq.machine[g] = s.seq.machine[g]) ∧
    (d.inputCode = p → d.inputValid = true → leaves s) ∧
    (¬ (d.inputCode = p ∧ d.inputValid = true) → legal p →
      (d.state ≠ .runningUp → d.state ≠ .runningDown → leaves observed) ∧
      (∀ t b, type = .plunger → d.running = some t → d.best = some b →
        (d.state = .runningUp →
          let best := observed.setDrive c { seen with best := some (max b p) }
          (t.pos ≤ p + tol → leaves (enterStopping c .reached best)) ∧
          (p + tol < t.pos → p + 8 < b → leaves (enterFault c .direction best)) ∧
          (p + tol < t.pos → b ≤ p + 8 → leaves best)) ∧
        (d.state = .runningDown →
          let best := observed.setDrive c { seen with best := some (min b p) }
          (p ≤ t.pos + tol → leaves (enterStopping c .reached best)) ∧
          (t.pos + tol < p → b + 8 < p → leaves (enterFault c .direction best)) ∧
          (t.pos + tol < p → p ≤ b + 8 → leaves best))) ∧
      (∀ t x, type = .tapped → d.running = some t →
        (d.phase = some .step ∧ d.stepStart = some x) ∨ (d.phase = some .delay ∧ d.position = some x) →
        let delayed := observed.setDrive c
          { seen with
            phase := some .delay, stepStart := none, step := none, delay := some (s.settings.interStep[c] * 1000)
            raiseOut := false, lowerOut := false }
        let goesOn := if d.phase = some .step then delayed else observed
        (p = x → d.state = .runningUp ∨ d.state = .runningDown → leaves observed) ∧
        (d.state = .runningUp →
          (x < p → t.pos ≤ p + tol → leaves (enterStopping c .reached observed)) ∧
          (x < p → p + tol < t.pos → leaves goesOn) ∧
          (p < x → leaves (enterFault c .direction observed))) ∧
        (d.state = .runningDown →
          (p < x → p ≤ t.pos + tol → leaves (enterStopping c .reached observed)) ∧
          (p < x → t.pos + tol < p → leaves goesOn) ∧
          (x < p → leaves (enterFault c .direction observed))))) ∧
    (∀ code valid, ¬ (d.inputCode = code ∧ d.inputValid = valid) → valid = false ∨ ¬ legal code →
      let lost := s.setDrive c { d with inputCode := code, inputValid := valid, feedback := false }
      ((s.topo.coil[c]).mode.member = false ∨ d.state = .fault → exec (.positionReport c code valid) s = .next lost) ∧
      ((s.topo.coil[c]).mode.member = true → d.state ≠ .fault →
        exec (.positionReport c code valid) s = .next (enterFault c .feedback lost)))

/-! ## Earth-fault episodes -/

/-- START_DWELL_EXPIRY (R145, R146, R49, R76): a running start dwell outside every open episode opens an episode on the sections of
the group that belong to none; their dwells stop, the post-fault hold is cancelled, a cycle in flight ends as ABORTED_FAULT with its
injector off and its record appended, the group's drives stop, and the estimate is FROZEN. EPISODE_START with the section set, q,
the restrike flag and the peak comes last (R146), after CYCLE_ABORTED of an aborted cycle and MOVE_DONE of moves whose coast time is
0, an order among these two that is log entry 49 (DESIGN CHOICE). Without a running dwell, or in an open episode, nothing changes
(log entry 5, the model's choice for a stopped dwell). -/
def Obligations.StartDwellOpensAnEpisode : Prop :=
  ∀ (q : Section) (s : State),
    let g := s.topo.groupOf[q]
    let m := s.seq.machine[g]
    let ended := abortCycle g .abortedFault s
    ((s.sup.watch[q]).start = none ∨ (openEpisode s q).isSome = true → exec (.startDwellExpiry q) s = .next s) ∧
    (∀ d, (s.sup.watch[q]).start = some d → openEpisode s q = none →
      ∃ t e, exec (.startDwellExpiry q) s = .next t ∧ t.sup.log = appendEpisode e s.sup.log ∧ e.number = s.sup.next ∧
        (∀ r : Section, r ∈ e.sections ↔ s.topo.groupOf[r] = g ∧ openEpisode s r = none) ∧ e.outcome = .opened ∧ e.start = d.time ∧
        e.endTime = none ∧ e.peak = d.peak ∧ e.peakSection = q ∧ (e.restrike = true ↔ s.sup.hold[g] ≠ none) ∧
        e.iC = (s.est[g]).value.map Currents.iC ∧ e.tMax = s.settings.tMax ∧ e.persistence = some (s.settings.tMax * 1000) ∧
        (∀ c : Coil, e.coils[c] = if (s.topo.coil[c]).mode.member = true then presentCurrent s c else none) ∧
        t.sup.next = (if s.sup.next = 65535 then 1 else s.sup.next + 1) ∧ t.sup.hold = s.sup.hold.set g none ∧
        (∀ r : Section, t.sup.watch[r] = if r ∈ e.sections then ⟨none, none, false⟩ else s.sup.watch[r]) ∧
        t.ring = ended.ring ∧ t.seq.injector = ended.seq.injector ∧
        (m.state.inFlight = false ∨ m.capture = none → t.ring = s.ring ∧ t.seq.injector = s.seq.injector) ∧
        (∀ k, m.capture = some k → m.state.inFlight = true →
          (t.seq.machine[g]).capture = none ∧ (t.seq.machine[g]).lock = false ∧
          t.seq.injector =
            s.seq.injector.set k.lead
              { s.seq.injector[k.lead] with enable := false, phase180 := false, level := (s.seq.injector[k.lead]).effective } ∧
          t.ring = s.ring.append (captureRecord k .abortedFault (some m.state) k.quality none none none s) ∧
          (t.est[g]).lastCycle = some (.abortedFault, k.quality) ∧ (t.est[g]).early = false) ∧
        ((∀ c : Coil, s.settings.coast[c] ≠ 0) → t.seq.machine = ended.seq.machine) ∧
        ((s.est[g]).state ≠ .frozen →
          t.est = s.est.set g { ended.est[g] with state := .frozen, returnState := some (s.est[g]).state, quiet := [] }) ∧
        (t.est[g]).state = .frozen ∧ (t.est[g]).value = (s.est[g]).value ∧
        (∀ c ∈ (s.topo.group[g]).members, (t.drive[c]).state.running = false) ∧
        (∀ c : Coil, c ∉ (s.topo.group[g]).members → t.drive[c] = s.drive[c]) ∧
        (∀ x, x ∈ t.seq.decisions ↔ x ∈ s.seq.decisions ∧ ∀ r ∈ x.marks, r ∉ e.sections) ∧
        (∃ moved : List Event,
          t.events =
              afterEvents (abortEvents g .abortedFault s ++ moved ++
                [(.episodeStart, some e.number,
                  [some (maskOf e.sections), some q.val, some (if e.restrike = true then 1 else 0), some e.peak])]) s ∧
            (∀ y ∈ moved, y.1 = .moveDone) ∧
            ((∀ c ∈ (s.topo.group[g]).members, (s.drive[c]).state.running = true → s.settings.coast[c] ≠ 0) → moved = [])) ∧
        t.topo = s.topo ∧ t.settings = s.settings ∧ t.reg = s.reg ∧ t.planner = s.planner ∧ t.time = s.time)

/-- END_DWELL_EXPIRY (R149, R150, R151): the section's quiet mark is set; when every section of its open episode is quiet the
episode closes as CLEARED at this time, the marks are cleared, and a post-fault hold starts for each group that it leaves without an
open episode; with T_hold 0 that hold ends as it starts: the group is unfrozen and its flag is set. EPISODE_END with CLEARED, the
duration, the peak and the peak section is raised last, as R150 orders: after the holds it starts, and so with T_hold 0 after the
RANGE_LIMIT and MOVE_DONE of the plannings of the groups unfrozen within the closing (R151), and nothing else is raised. That no
waiting target and no WAITING machine starts within this step, MOVE_START and CYCLE_START being steps of their own, is log entry 12
(DEDUCED). PERSISTENCE_TIMER_EXPIRY (R153) of a section's OPEN episode: it becomes PERSISTENT with its event. An episode is told
from another by its sections, since numbers come again when the counter has wrapped (R145). A stopped dwell changes nothing (log
entry 5); the duration of an episode may be negative after a TIME_SET (log entry 18); several holds start in increasing group number
(log entry 46): the model's choices. -/
def Obligations.EndDwellClosesTheEpisode : Prop :=
  ∀ (q : Section) (s : State),
    let quieted := s.setWatch q { s.sup.watch[q] with endDwell := none, quiet := true }
    ((s.sup.watch[q]).endDwell = none → exec (.endDwellExpiry q) s = .next s) ∧
    ((s.sup.watch[q]).endDwell ≠ none → openEpisode s q = none → exec (.endDwellExpiry q) s = .next quieted) ∧
    (∀ e, openEpisode s q = some e → (s.sup.watch[q]).endDwell ≠ none →
      ((∃ r ∈ e.sections, r ≠ q ∧ (s.sup.watch[r]).quiet = false) → exec (.endDwellExpiry q) s = .next quieted) ∧
      ((∀ r ∈ e.sections, r ≠ q → (s.sup.watch[r]).quiet = true) →
        let log := s.sup.log.map (fun r =>
          if (r.outcome = .opened ∨ r.outcome = .persistent) ∧ r.sections = e.sections then
            { r with outcome := .cleared, endTime := some s.time, persistence := none }
          else r)
        let freed : Group → Prop := fun g =>
          s.topo.groupOf[g] = g ∧ (∃ r ∈ e.sections, s.topo.groupOf[r] = g) ∧
            episodeCondition { s with sup := { s.sup with log := log } } g = false
        let ended : Event :=
          (.episodeEnd, some e.number,
            [some 2, some (roundDiv ((s.time : Int) - e.start) 1000), some e.peak, some e.peakSection.val])
        ∃ t, exec (.endDwellExpiry q) s = .next t ∧ t.sup.log = log ∧ t.sup.next = s.sup.next ∧
          (∀ r : Section,
            t.sup.watch[r] =
              if r ∈ e.sections then { s.sup.watch[r] with endDwell := none, quiet := false } else s.sup.watch[r]) ∧
          (s.settings.tHold ≠ 0 →
            (∀ g : Group, t.sup.hold[g] = if freed g then some (s.settings.tHold * 1000) else s.sup.hold[g]) ∧
            t.events = afterEvents [ended] s ∧
            t = { s with sup := t.sup, events := t.events }) ∧
          (s.settings.tHold = 0 →
            (∀ g : Group,
              (freed g → t.sup.hold[g] = none ∧
                (s.runState ≠ .starting → (t.seq.machine[g]).flag = true) ∧
                (∀ x, (s.est[g]).returnState = some x → (s.est[g]).state = .frozen →
                  t.est[g] = { s.est[g] with state := x, returnState := none })) ∧
              (¬ freed g → t.sup.hold[g] = s.sup.hold[g] ∧ t.est[g] = s.est[g])) ∧
            (∃ later : List Event,
              t.events = afterEvents (later ++ [ended]) s ∧ (∀ y ∈ later, y.1 = .moveDone ∨ y.1 = .rangeLimit) ∧
                (s.runState ≠ .run ∨ (∀ g : Group, ¬ freed g) → later = [])) ∧
            t.topo = s.topo ∧ t.settings = s.settings ∧ t.reg = s.reg ∧ t.ring = s.ring ∧ t.runState = s.runState ∧
            t.time = s.time ∧ t.seq.injector = s.seq.injector ∧ t.planner.table = s.planner.table))) ∧
    (∀ e, openEpisode s q = some e → e.persistence ≠ none →
      exec (.persistenceTimerExpiry q) s =
        .next { s with
          sup := { s.sup with
            log := s.sup.log.map (fun r =>
              if r.isOpen = true ∧ r.sections = e.sections then { r with outcome := .persistent, persistence := none } else r) }
          events := afterEvent .episodePersistent (some e.number)
            [some (sectionMask e.sections), some e.peak, some e.peakSection.val, some e.tMax] s }) ∧
    ((openEpisode s q).bind EpisodeRecord.persistence = none → exec (.persistenceTimerExpiry q) s = .next s)

/-- The start test and the end test of a section at a boundary (R144, R148, R149) act on the published magnitude of its U0: outside
an episode the dwell starts at U_start, keeps the highest magnitude and stops below it; a dwell so stopped clears the section's mark
from its pending decision, and a decision that keeps no mark is a false start (R148). In an episode the end dwell starts at U_end or
below, and above it the dwell stops, the quiet mark clears and the peak of the section's episode rises. -/
def Obligations.SectionTestsFollowTheThresholds : Prop :=
  ∀ (q : Section) (s : State),
    let w := s.sup.watch[q]
    let m := (s.acq.phasor[u0Channel q]).magnitude
    let stopped := s.setWatch q { w with start := none }
    (openEpisode s q = none →
      (s.settings.uStart ≤ m → w.start = none →
        sectionTest q s = s.setWatch q { w with start := some ⟨s.time, m, s.settings.tStart⟩ }) ∧
      (∀ d, w.start = some d → s.settings.uStart ≤ m →
        sectionTest q s = s.setWatch q { w with start := some { d with peak := max d.peak m } }) ∧
      (m < s.settings.uStart →
        ((∀ x ∈ s.seq.decisions, q ∉ x.marks) → sectionTest q s = stopped) ∧
        (∀ (before : List Decision) (x : Decision) (rest : List Decision), s.seq.decisions = before ++ x :: rest → q ∈ x.marks →
          (∀ y ∈ before ++ rest, q ∉ y.marks ∧ y.marks ≠ []) →
            ((∃ r ∈ x.marks, r ≠ q) →
              sectionTest q s =
                stopped.setDecisions (before ++ { x with marks := x.marks.filter (fun r => decide (r ≠ q)) } :: rest)) ∧
            ((∀ r ∈ x.marks, r = q) →
              sectionTest q s = falseStart x.coil s.topo.groupOf[q] (stopped.setDecisions (before ++ rest)))))) ∧
    (∀ e, openEpisode s q = some e →
      (m ≤ s.settings.uEnd → w.endDwell = none → w.quiet = false →
        sectionTest q s = s.setWatch q { w with start := none, endDwell := some s.settings.tEnd }) ∧
      (m ≤ s.settings.uEnd → w.endDwell ≠ none ∨ w.quiet = true → sectionTest q s = s.setWatch q { w with start := none }) ∧
      (s.settings.uEnd < m →
        sectionTest q s =
          (s.setWatch q ⟨none, none, false⟩).setLog
            (s.sup.log.map (fun r =>
              if r.isOpen = true ∧ q ∈ r.sections ∧ r.peak < m then { r with peak := m, peakSection := q } else r))))

/-- The crossing test of a group at a boundary (R147): a cycle in flight, no section of the group in an open episode and some
section at U_start or above end the cycle as ABORTED_OVERVOLTAGE and leave one decision pending, with the lead coil and the crossing
sections (R50); otherwise nothing changes. A false start (R37, R50): the effective level of the recorded coil's injector falls by
one and not below 1, the level output of an injector that is off shows it, INJECTOR is raised with the reason 2, and the flag of the
group is set. While a decision of a group is pending its machine does not leave WAITING (R40, R50); an opening settles as genuine
every decision that marks a section of the episode (R148). -/
def Obligations.CrossingsAreReportedAndSettled : Prop :=
  (∀ (g : Group) (s : State),
     let m := s.seq.machine[g]
     let crossing : List Section := ([0, 1, 2, 3] : List Section).filter (fun q =>
       decide (s.topo.groupOf[q] = g ∧ s.settings.uStart ≤ (s.acq.phasor[u0Channel q]).magnitude))
     let sound := ∀ q : Section, s.topo.groupOf[q] = g → openEpisode s q = none
     (m.capture = none ∨ m.state.inFlight = false ∨ ¬ sound ∨ crossing = [] → crossingTest g s = s) ∧
     (∀ k, m.capture = some k → m.state.inFlight = true → sound → crossing ≠ [] →
       let ended := abortCycle g .abortedOvervoltage s
       crossingTest g s = { ended with seq := { ended.seq with decisions := s.seq.decisions ++ [⟨k.lead, crossing⟩] } } ∧
         decisionPending (crossingTest g s) g = true ∧ ((crossingTest g s).seq.machine[g]).lock = false)) ∧
  (∀ (c : Coil) (g : Group) (s : State), s.runState ≠ .starting →
     let j := s.seq.injector[c]
     let level := if j.effective ≤ 1 then 1 else j.effective - 1
     falseStart c g s =
       { s with
         seq := { s.seq with
           injector := s.seq.injector.set c { j with effective := level, level := if j.enable = true then j.level else level }
           machine := s.seq.machine.set g (flagged s.seq.machine[g]) }
         events := afterEvent .injector (some c)
           [some (if j.available = true then 1 else 0), some level, some s.settings.injectorLevel[c], some 2] s }) ∧
  (∀ (g : Group) (s : State), decisionPending s g = true → exec (.cycleStart g) s = .next s) ∧
  (∀ (set : List Section) (s : State),
     settleGenuine set s =
       { s with seq := { s.seq with decisions := s.seq.decisions.filter (fun d => decide (∀ q ∈ d.marks, q ∉ set)) } })

/-! ## Contact inputs -/

/-- RAW_LEVEL_CHANGE, DEBOUNCE_TIMER_EXPIRY and FIRST_DEBOUNCE_TIMEOUT (R161, R162): an edge away from the debounced level starts
the timer and one back stops it; the first debounce writes the level and nothing else; a changed level of a NONE input raises
INPUT_CHANGE. DISCREPANCY_TIMER_EXPIRY (R165): UNKNOWN is delivered to the coupler as one topology change; a coupler that is UNKNOWN
already only loses its timer. That the expiry of a stopped timer changes nothing is log entry 5, and that the end of the 150 ms
stops an input's debounce timer is log entry 47 (both DESIGN CHOICE). -/
def Obligations.DebouncingAndDiscrepancyFollowTheContacts : Prop :=
  (∀ (i : ContactNo) (s : State),
     let r := s.contacts.input[i]
     (∀ high : Bool,
       (r.raw = high → exec (.rawLevelChange i high) s = .next s) ∧
       (r.raw ≠ high → r.level ≠ some high →
         exec (.rawLevelChange i high) s = .next (s.setInput i { r with raw := high, timer := some r.debounce })) ∧
       (r.raw ≠ high → r.level = some high →
         exec (.rawLevelChange i high) s = .next (s.setInput i { r with raw := high, timer := none }))) ∧
     (r.timer = none → exec (.debounceTimerExpiry i) s = .next s) ∧
     (r.timer ≠ none →
       (r.level = none ∨ r.level = some r.raw →
         exec (.debounceTimerExpiry i) s = .next (s.setInput i { r with level := some r.raw, timer := none })) ∧
       (r.level = some (!r.raw) →
         let u := s.setInput i { r with level := some r.raw, timer := none }
         let active := r.raw != r.inverted
         let event := [val (bit active), val (bit r.raw), val r.assignment.kindCode, value r.assignment.item]
         exec (.debounceTimerExpiry i) s = .next (handActive r.assignment active (raiseEvent .inputChange (some i) event u)) ∧
         (r.assignment = .nothing →
           exec (.debounceTimerExpiry i) s = .next { u with events := afterEvent .inputChange (some i) event s }))) ∧
     (s.contacts.startTimer ≠ none →
       ∃ t, exec .firstDebounceTimeout s = .next t ∧
         t = { s with contacts := { s.contacts with input := t.contacts.input, startTimer := none } } ∧
         t.contacts.input[i] = if r.level = none then { r with level := some r.raw, timer := none } else r) ∧
     (s.contacts.startTimer = none → exec .firstDebounceTimeout s = .next s)) ∧
  (∀ (k : Coupler) (s : State),
     let x := s.contacts.indication[k]
     let stopped := s.setIndication k { x with timer := none }
     (x.timer = none → exec (.discrepancyTimerExpiry k) s = .next s) ∧
     (x.timer ≠ none → s.topo.coupler[k] = .unknown → exec (.discrepancyTimerExpiry k) s = .next stopped) ∧
     (x.timer ≠ none → s.topo.coupler[k] ≠ .unknown →
       ∃ t, exec (.discrepancyTimerExpiry k) s = .next t ∧
         t = changeTopology (fun u => { u with coupler := u.coupler.set k .unknown }) stopped ∧
         t.topo.coupler = s.topo.coupler.set k .unknown ∧ topologyLaw t = true ∧ t.contacts = stopped.contacts ∧
         t.topo.coil = s.topo.coil ∧ t.settings = s.settings))

/-- What the item of an input does with a change of its active state (R162). COIL_PARK (R24): active, a MANUAL or AUTO coil becomes
PARKED; released, a PARKED one becomes MANUAL. LIMIT_UP and LIMIT_DOWN (R131): active, a move in that direction stops as LIMIT.
FEEDER (R90): a defined feeder takes IN or OUT as one transition; between the two the estimate is adjusted, the group's switching
delay restarts as a switching trigger says (R45, R93), and a changed value raises ESTIMATE with PRE_TUNED (R78) before what the
planner and the drives raise (log entry 49, DESIGN CHOICE). INJECTOR_FAULT (R36, R51): the availability is recomputed, and a cycle
that loses its injector ends as ABORTED_INJECTOR with its flag set and its record in the ring; INJECTOR is raised before
CYCLE_ABORTED, which is log entry 41, several such groups, which no run reaches, being taken in increasing number, which is log
entry 42 (DESIGN CHOICE). That a WAITING machine which gains a lead does not start within this step, CYCLE_START being a step of its
own, is log entry 12 (DEDUCED). A coupler's contacts (R164, R165): one contact is followed, two that disagree deliver CLOSED or OPEN
and stop the discrepancy timer, two that agree start it. -/
def Obligations.ContactItemsTakeTheirChange : Prop :=
  ∀ s : State,
    (∀ c : Coil,
      let record := s.topo.coil[c]
      let drive := s.drive[c]
      let takes : CoilMode → State := fun m =>
        changeTopology (fun u => { u with coil := u.coil.set c { u.coil[c] with mode := m } }) s
      (record.mode = .manual ∨ record.mode = .auto →
        handActive (.coilPark c) true s = takes .parked ∧ handActive (.coilPark c) false s = s) ∧
      (record.mode = .parked → handActive (.coilPark c) true s = s ∧ handActive (.coilPark c) false s = takes .manual) ∧
      (record.mode = .absent → handActive (.coilPark c) true s = s ∧ handActive (.coilPark c) false s = s) ∧
      (∀ m : CoilMode, (takes m).topo.coil = s.topo.coil.set c { record with mode := m }) ∧
      handActive (.limitUp c) true s = (if drive.state = .runningUp then enterStopping c .limit s else s) ∧
      handActive (.limitDown c) true s = (if drive.state = .runningDown then enterStopping c .limit s else s) ∧
      handActive (.limitUp c) false s = s ∧ handActive (.limitDown c) false s = s ∧
      (∀ active : Bool,
        let faulty := ∃ i : ContactNo, (s.contacts.input[i]).assignment = .injectorFault c ∧ (s.contacts.input[i]).active = some true
        let available := decide (record.injector = true ∧ (record.mode = .manual ∨ record.mode = .auto) ∧ ¬ faulty)
        let j := s.seq.injector[c]
        let t := handActive (.injectorFault c) active s
        (available = j.available → t = s) ∧
        (available ≠ j.available →
          (t.seq.injector[c]).available = available ∧ t.topo = s.topo.recomputed (availability s s.topo) ∧
          t.drive = s.drive ∧ t.reg = s.reg ∧ t.planner = s.planner ∧ t.sup = s.sup ∧
          (available = true →
            t = { s with
              topo := t.topo
              seq := { s.seq with injector := s.seq.injector.set c { j with available := true } }
              events := afterEvent .injector (some c) [some 1, some j.effective, some s.settings.injectorLevel[c], some 1] s }) ∧
          (available = false →
            let lost : List Group :=
              ([0, 1, 2, 3] : List Group).filter (fun g => decide ((s.seq.machine[g]).capture.map Capture.lead = some c))
            let record : Group → List HistoryRecord := fun g =>
              match (s.seq.machine[g]).capture with
              | some k =>
                if (s.seq.machine[g]).state.inFlight = true then
                  [captureRecord k .abortedInjector (some (s.seq.machine[g]).state) k.quality none none none s]
                else []
              | none => []
            t.events =
                afterEvents (([(.injector, some c.val, [some 0, some j.effective, some s.settings.injectorLevel[c], some 1])] : List Event) ++
                  lost.flatMap (fun g => abortEvents g .abortedInjector s)) s ∧
              t.ring = (lost.flatMap record).foldl (fun h x => h.append x) s.ring) ∧
          (∀ g : Group, ∀ k, (s.seq.machine[g]).capture = some k →
            (available = false → k.lead = c → (s.seq.machine[g]).state.inFlight = true →
              t.seq.machine[g] =
                { state := .waiting, flag := true, switching := (s.seq.machine[g]).switching, lock := false, capture := none
                  periodic := if s.settings.periodic = 0 then none else some (s.settings.periodic * 1000) } ∧
              (t.est[g]).lastCycle = some (.abortedInjector, k.quality) ∧ (t.seq.injector[c]).enable = false) ∧
            (k.lead ≠ c → t.seq.machine[g] = s.seq.machine[g] ∧ t.est[g] = s.est[g]))))) ∧
    (∀ (n : FeederNo) (active : Bool),
      let f := s.reg.feeder[n]
      let g := s.topo.groupOf[f.sect]
      let e := s.est[g]
      let new : FeederState := if active = true then .into else .out
      let t := handActive (.feeder n) active s
      (f.defined = false ∨ f.state = new → t = s) ∧
      (f.defined = true → f.state = .unknown → s.runState ≠ .starting → t = movedFeeder n new s) ∧
      (f.defined = true → f.state ≠ .unknown → f.state ≠ new →
        t.reg.feeder = s.reg.feeder.set n { f with state := new } ∧
        t.est = s.est.set g (e.adjusted (decide (active = true ∧ f.contribution.isSome = true)) (f.contribution.getD 0) (s.seq.machine[g]).lock) ∧
        t.reg.list = s.reg.list.set g (TransitionList.enter
          ⟨n, f.sect, f.state, new, s.time, e.stateBehind, e.value.map Currents.iC,
            match f.contribution with | some c => .preTuned c | none => .learning, s.reg.taken⟩ s.reg.list[g]) ∧
        t.seq = { s.seq with machine := t.seq.machine } ∧
        (s.runState ≠ .starting →
          t.seq.machine[g] = switched s.settings.tSwitch s.seq.machine[g] ∧
            (topologyLaw s = true → t.seq.machine = s.seq.machine.set g (switched s.settings.tSwitch s.seq.machine[g]))) ∧
        (∃ later : List Event,
          t.events =
              afterEvents ((if (t.est[g]).value = e.value then [] else [estimateEvent g t.est[g] 4]) ++ later) s ∧
            (∀ y ∈ later, y.1 = .moveDone ∨ y.1 = .rangeLimit) ∧ (s.runState ≠ .run ∨ t.est[g] = e → later = [])) ∧
        t.topo = s.topo ∧ t.sup = s.sup ∧ t.contacts = s.contacts)) ∧
    (∀ (k : Coupler) (active : Bool),
      let follow : CouplerState → State → State := fun x u =>
        if u.topo.coupler[k] = x then u else changeTopology (fun v => { v with coupler := v.coupler.set k x }) u
      let timed : Option Nat → State := fun n => s.setIndication k { s.contacts.indication[k] with timer := n }
      let form := (s.contacts.indication[k]).form
      let closed := assignedActive s (.couplerClosed k)
      let opened := assignedActive s (.couplerOpen k)
      let t := handActive (.couplerClosed k) active s
      handActive (.couplerOpen k) active s = t ∧
      (∀ a, closed = some a → form = .singleClosed → t = follow (if a = true then .closed else .opened) s) ∧
      (∀ a, opened = some a → form = .singleOpen → t = follow (if a = true then .opened else .closed) s) ∧
      (∀ a b, closed = some a → opened = some b → form = .double →
        (a = true → b = false → t = follow .closed (timed none)) ∧
        (a = false → b = true → t = follow .opened (timed none)) ∧
        (a = b → t = if (s.contacts.indication[k]).timer = none then timed (some s.settings.discrepancy) else s)))

/-! ## The estimate and the plan -/

/-- The cycle result (R58 to R61): the response guard, the admittance rounded to nearest, the guards of stage 3 with their flags,
and the natural displacement of an accepted cycle; an accepted result lies within 1..65535 and 0..65535. -/
def Obligations.CycleResultIsGuarded : Prop :=
  ∀ (uMin coilCurrent : Nat) (uA iA uB iB : Phasor) (q : Quality),
    let du : Phasor := ⟨uA.re - uB.re, uA.im - uB.im⟩
    let di : Phasor := ⟨iA.re - iB.re, iA.im - iB.im⟩
    let n := du.re.natAbs * du.re.natAbs + du.im.natAbs * du.im.natAbs
    let re := roundDiv (10000 * (di.re * du.re + di.im * du.im)) n
    let ic := roundDiv (10000 * (di.im * du.re - di.re * du.im)) n + coilCurrent
    let r := cycleResult uMin coilCurrent uA iA uB iB q
    (n < (2 * uMin) * (2 * uMin) → r = (none, { q with lowResponse := true })) ∧
    ((2 * uMin) * (2 * uMin) ≤ n →
      r.2.dampClamped = (q.dampClamped || decide (re < 0)) ∧ r.2.gSaturated = (q.gSaturated || decide (65535 < re)) ∧
      r.2.icNonpos = (q.icNonpos || decide (ic ≤ 0)) ∧ r.2.icSaturated = (q.icSaturated || decide (65535 < ic)) ∧
      r.2 = { q with dampClamped := r.2.dampClamped, gSaturated := r.2.gSaturated, icNonpos := r.2.icNonpos,
                     icSaturated := r.2.icSaturated } ∧
      (r.1 = none ↔ 65535 < re ∨ ic ≤ 0 ∨ 65535 < ic) ∧
      (∀ x, r.1 = some x →
        (x.currents.iC : Int) = ic ∧ (x.currents.iG : Int) = max 0 re ∧ 1 ≤ x.currents.iC ∧ x.currents.iC ≤ 65535 ∧
          x.currents.iG ≤ 65535 ∧ x.uNat = ⟨roundDiv (uA.re + uB.re) 2, roundDiv (uA.im + uB.im) 2⟩))

/-- The derived values of a group (R62), as READ_ESTIMATE carries them: while the estimate holds a value, the detuning is
round(1000·(I_L − I_C)/I_C), set to −1000 when below and to 2000 when above, the damping round(1000·I_G/I_C), set to 1000 when
above, and the residual current the root of I_G² + (I_C − I_L)², rounded, set to 65535 when above; I_L is the group's present coil
current. They stand at bytes 36 to 41 of the result, and the presence bit 4 says whether they do: without a value they are absent,
as is the detuning that the history and the fault log take. The detuning before its limits is never below −1000. -/
def Obligations.DerivedValuesFollowTheEstimate : Prop :=
  ∀ (g : Group) (s : State),
    let e := s.est[g]
    let present : Int := groupCurrent s g
    (∃ before after : List Byte, ∃ flags : Nat,
      estimateResult g s = before ++ be 2 flags ++ after ∧ before.length = 11 ∧ flags.testBit 4 = e.value.isSome) ∧
    (e.value = none → groupDetuning s g = none) ∧
    (∀ v, e.value = some v → 1 ≤ v.iC →
      let x := roundDiv (1000 * (present - v.iC)) v.iC
      let d := (roundDiv (1000 * (v.iG : Int)) v.iC).toNat
      let square := v.iG * v.iG + ((v.iC : Int) - present).natAbs * ((v.iC : Int) - present).natAbs
      groupDetuning s g = some (max (-1000) (min 2000 x)) ∧ -1000 ≤ x ∧
      ∃ root : Nat,
        (root = 0 ∨ (2 * root - 1) * (2 * root - 1) < 4 * square) ∧ 4 * square < (2 * root + 1) * (2 * root + 1) ∧
        ((estimateResult g s).drop 36).take 6 = signed 2 (max (-1000) (min 2000 x)) ++ be 2 (min 1000 d) ++ be 2 (min 65535 root))

/-- The fold (R66 to R72) by the estimate's state: the new state, value, candidate and count, the record's flags and the follow-up.
A blend and a mean lie between what they are formed of (R64, R66, R70), so a value within 1..65535 stays within. -/
def Obligations.FoldFollowsTheStateOfAnEstimate : Prop :=
  (∀ (tau k : Nat) (r : Currents) (e : Estimate),
     let f := foldResult tau k r e
     let near : Nat → Prop := fun x => (max x r.iC) - (min x r.iC) ≤ tau
     let replaced := f.est = { e with candidate := some r, disagreement := min 4 (e.disagreement + 1) } ∧
       (f.followUp = true ↔ e.disagreement + 1 < 4) ∧ (f.unstable = true ↔ e.disagreement = 3) ∧ f.reason = none
     (e.state = .empty →
       f.est = { e with state := .settling, candidate := some r, disagreement := 0 } ∧ f.followUp = true ∧ f.reason = none) ∧
     (∀ c, e.state = .settling → e.candidate = some c →
       (near c.iC → f.est = { e with state := .valid, value := some (meanOf c r), candidate := none, disagreement := 0 } ∧
         f.reason = some .settled ∧ f.followUp = false) ∧
       (¬ near c.iC → replaced ∧ f.outlier = false)) ∧
     (∀ v, e.state = .valid → e.value = some v → e.candidate = none →
       (near v.iC → f.est = { e with value := some (blend k v r) } ∧ f.outlier = false ∧ f.followUp = false) ∧
       (¬ near v.iC → f.est = { e with candidate := some r, disagreement := 0 } ∧ f.outlier = true ∧ f.followUp = true)) ∧
     (∀ v c, e.state = .valid → e.value = some v → e.candidate = some c →
       (near v.iC → f.est = { e with value := some (blend k v r), candidate := none, disagreement := 0 } ∧ f.outlier = true ∧
         f.step = false) ∧
       (¬ near v.iC → near c.iC →
         f.est = { e with value := some (meanOf c r), candidate := none, disagreement := 0 } ∧ f.step = true ∧ f.outlier = false ∧
           f.reason = some .step) ∧
       (¬ near v.iC → ¬ near c.iC → replaced ∧ f.outlier = true)) ∧
     (∀ v, e.state = .provisional → e.value = some v →
       (e.early = true → f.est = { e with value := some (blend k v r) } ∧ f.kind = .early ∧ f.reason = none) ∧
       (e.early = false →
         f.est = { e with state := .valid, value := some r, candidate := none, disagreement := 0 } ∧ f.kind = .confirming ∧
           f.confirm = true ∧ f.reason = some .confirmed))) ∧
  (∀ (k : Nat) (v r : Currents),
     (min v.iC r.iC ≤ (blend k v r).iC ∧ (blend k v r).iC ≤ max v.iC r.iC) ∧
     (min v.iG r.iG ≤ (blend k v r).iG ∧ (blend k v r).iG ≤ max v.iG r.iG) ∧
     (min v.iC r.iC ≤ (meanOf v r).iC ∧ (meanOf v r).iC ≤ max v.iC r.iC) ∧
     (min v.iG r.iG ≤ (meanOf v r).iG ∧ (meanOf v r).iG ≤ max v.iG r.iG) ∧ blend 0 v r = r)

/-- Interpolation in a table that keeps the law of the tables (derived from R101 to R103; that it is monotone no rule states by
itself): exact at its points, clamped at its ends, monotone, within the ranges of current and position, and on each segment the
rounded line through its two points. -/
def Obligations.InterpolationFollowsTheSegments : Prop :=
  ∀ (t : List Point) (a z : Point), increasing t = true → t.head? = some a → t.getLast? = some z →
    (∀ p ∈ t, tableCurrent t p.pos = some p.cur ∧ tablePosition t p.cur = p.pos) ∧
    (∀ x, x ≤ a.pos → tableCurrent t x = some a.cur) ∧ (∀ x, z.pos ≤ x → tableCurrent t x = some z.cur) ∧
    (∀ i, i ≤ a.cur → tablePosition t i = a.pos) ∧ (∀ i, z.cur ≤ i → tablePosition t i = z.pos) ∧
    (∀ x y i j, x ≤ y → tableCurrent t x = some i → tableCurrent t y = some j → i ≤ j ∧ a.cur ≤ i ∧ j ≤ z.cur) ∧
    (∀ i j, i ≤ j → tablePosition t i ≤ tablePosition t j ∧ a.pos ≤ tablePosition t i ∧ tablePosition t j ≤ z.pos) ∧
    (∀ (n : Nat) (p q : Point), t[n]? = some p → t[n + 1]? = some q →
      (∀ x, p.pos ≤ x → x ≤ q.pos →
        tableCurrent t x =
          some ((p.cur : Int) + roundDiv (((x : Int) - p.pos) * ((q.cur : Int) - p.cur)) (q.pos - p.pos)).toNat) ∧
      (∀ i, p.cur ≤ i → i ≤ q.cur →
        tablePosition t i =
          ((p.pos : Int) + roundDiv (((i : Int) - p.cur) * ((q.pos : Int) - p.pos)) (q.cur - p.cur)).toNat))

/-- A planning of a group (R109 to R112, R116): it is made in RUN, for a group in use that is neither held nor frozen, and is
otherwise no change at all. Its record holds F, the sum of the fixed coils' present currents; without a value NO_VALUE and without a
movable coil NO_AUTO, with nothing else held and RANGE_LIMIT clear, a cleared condition raising its event with the bound absent (log
entry 19, DEDUCED); else the raw target, the limits, the target between them and RANGE_LIMIT with its bound; within the deadband of
the present current DEADBAND, else PLANNED with the allocation of the rest. A change of RANGE_LIMIT is raised, also by a PLANNED
planning, before the MOVE_DONE events of moves that the handed targets end at once, an order R184 leaves open (log entry 49, DESIGN
CHOICE); nothing else is raised, and no MOVE_DONE where no coast time is 0 and no input is active. Every movable coil that is given
no target loses a pending AUTO target (R124), and every other drive of a group planned without targets stands; a coil that is given
one takes it as a new target (R123). That the record keeps the last PLANNED allocation besides is log entry 20, and RANGE_LIMIT's
exact values log entry 44: the model's. -/
def Obligations.PlanningsFormTheTargetUnderTheirGates : Prop :=
  ∀ (g : Group) (s : State),
    let members := (s.topo.group[g]).members
    let moves : Coil → Bool := fun c => decide ((s.topo.coil[c]).mode = .auto ∧ (s.drive[c]).state ≠ .fault)
    let auto := members.filter moves
    let fixed := currentSum s (members.filter (fun c => !moves c))
    let sum : (Coil → Nat) → Nat := fun f => (auto.map f).foldl (· + ·) 0
    let bounds : Coil → Nat × Nat := fun c => (tableLimits s.planner.table[c]).getD (0, 0)
    let old := s.planner.record[g]
    let t := planGroup g s
    let r := t.planner.record[g]
    let withdrawn : Coil → Drive := fun c =>
      let d := s.drive[c]
      if d.pending.map Target.origin = some .auto then
        { d with pending := none, state := if d.state = .pending then .idle else d.state }
      else d
    let limit : List Event :=
      if r.range = old.range then []
      else
        [(.rangeLimit, some g.val,
          [some (if r.range = .clear then 0 else 1), value r.raw, value r.target,
            match r.range with | .clear => none | .low => some 0 | .high => some 1])]
    let gate := s.runState = .run ∧ s.topo.groupOf[g] = g ∧ (s.topo.group[g]).held = false ∧ frozen s g = false
    (¬ gate → t = s) ∧
    (gate →
      t = { s with
        planner := { s.planner with record := s.planner.record.set g r }
        drive := t.drive
        seq := { s.seq with machine := t.seq.machine }
        events := t.events } ∧
      (∀ c : Coil, c ∉ auto → t.drive[c] = s.drive[c]) ∧
      r.time = some s.time ∧ r.fixed = some fixed ∧
      ((s.est[g]).value = none ∨ auto = [] →
        r = { PlanRecord.reset with
          outcome := if (s.est[g]).value = none then .noValue else .noAuto
          time := some s.time, fixed := some fixed, lastPlanned := old.lastPlanned }) ∧
      (∀ v, (s.est[g]).value = some v → auto ≠ [] →
        let raw := (roundDiv ((v.iC : Int) * (1000 + s.planner.setpoint[g])) 1000).toNat
        let low := fixed + sum (fun c => (bounds c).1)
        let high := fixed + sum (fun c => (bounds c).2)
        let target := if raw < low then low else if high < raw then high else raw
        let a := allocate ((target : Int) - fixed) (auto.map (fun c => ⟨c, (s.topo.coil[c]).type, s.planner.table[c]⟩))
        r.raw = some raw ∧ r.low = some low ∧ r.high = some high ∧ r.target = some target ∧
        r.range = (if raw < low then .low else if high < raw then .high else .clear) ∧
        (distance target (currentSum s members) ≤ s.settings.deadband →
          r.outcome = .deadband ∧ r.alloc = [] ∧ r.error = none ∧ r.lastPlanned = old.lastPlanned) ∧
        (s.settings.deadband < distance target (currentSum s members) →
          r.outcome = .planned ∧ r.error = some a.2 ∧ r.lastPlanned = r.alloc ∧
          r.alloc = a.1.map (fun p =>
            ⟨p.coil, p.share.toNat, p.pos, p.cur,
              if (s.drive[p.coil]).position.any (fun x => decide (stopTolerance s p.coil < distance x p.pos)) = true
              then .target else .withdrawal⟩))) ∧
      (r.outcome ≠ .planned →
        (∀ c ∈ auto, t.drive[c] = withdrawn c) ∧ t.seq = s.seq ∧ t.events = afterEvents limit s) ∧
      (r.outcome = .planned →
        ∃ later : List Event, t.events = afterEvents (limit ++ later) s ∧ (∀ y ∈ later, y.1 = .moveDone) ∧
          ((∀ c ∈ auto, s.settings.coast[c] ≠ 0) → (∀ i : ContactNo, (s.contacts.input[i]).active ≠ some true) → later = [])) ∧
      (r.outcome = .planned → (r.alloc.map AllocEntry.coil).Nodup →
        ∀ e ∈ r.alloc,
          (e.handed = .withdrawal → t.drive[e.coil] = withdrawn e.coil) ∧
          (e.handed = .target → t.drive[e.coil] = (newTarget e.coil ⟨e.pos, .auto⟩ s).drive[e.coil])))

/-- The allocation (R113 to R116) over movable coils with committed tables, for every R: one placement per coil in coil order, each
position within the coil's table. A tapped coil's share is its part of R by its span, and it takes the nearest tap, the lower of two
equally near. The plunger coils take R less the tap currents: each but the last its part by its span, the last what the others
leave, each set to its range; the error is what no coil takes. -/
def Obligations.AllocationPlacesEveryMovableCoil : Prop :=
  ∀ (r : Int) (ms : List Movable), (∀ m ∈ ms, increasing m.table = true ∧ 2 ≤ m.table.length) →
    (∀ m ∈ ms, m.type = .tapped → ∀ (n : Nat) (p : Point), m.table[n]? = some p → p.pos = n + 1) →
    (ms.map Movable.coil).Pairwise (· < ·) →
      let a := allocate r ms
      let total : (Movable → Nat) → List Movable → Int := fun f l => (l.map (fun m => (f m : Int))).foldl (· + ·) 0
      let part : Int → List Movable → Movable → Int := fun x l m =>
        m.min + roundDiv ((x - total Movable.min l) * m.span) (total Movable.span l).toNat
      let limited : Movable → Int → Int := fun m x => if x < m.min then m.min else if (m.max : Int) < x then m.max else x
      let plungers := ms.filter (fun m => decide (m.type = .plunger))
      let isPlunger : Placement → Bool := fun p => plungers.any (fun m => decide (m.coil = p.coil))
      let rest := r - ((a.1.filter (fun p => !isPlunger p)).map (fun p => (p.cur : Int))).foldl (· + ·) 0
      let shares := ((a.1.filter isPlunger).map Placement.share)
      a.1.map Placement.coil = ms.map Movable.coil ∧
      (∀ m ∈ ms, ∀ p ∈ a.1, p.coil = m.coil →
        (∃ lo hi, tableRange m.table = some (lo, hi) ∧ lo ≤ p.pos ∧ p.pos ≤ hi) ∧ tableCurrent m.table p.pos = some p.cur ∧
        (m.type = .tapped →
          p.share = part r ms m ∧ (∃ x ∈ m.table, x.pos = p.pos ∧ x.cur = p.cur) ∧
          ∀ x ∈ m.table, ((p.cur : Int) - p.share).natAbs ≤ ((x.cur : Int) - p.share).natAbs ∧
            (((p.cur : Int) - p.share).natAbs = ((x.cur : Int) - p.share).natAbs → p.pos ≤ x.pos)) ∧
        (m.type = .plunger →
          (m.min : Int) ≤ p.share ∧ p.share ≤ m.max ∧ p.pos = tablePosition m.table p.share.toNat ∧
          (plungers.getLast? ≠ some m → p.share = limited m (part rest plungers m)) ∧
          (plungers.getLast? = some m → p.share = limited m (rest - (shares.dropLast).foldl (· + ·) 0)))) ∧
      a.2 = rest - shares.foldl (· + ·) 0

/-! ## Laws of the whole part -/

/-- Every step keeps the law of the topology (R26): table, held flags, members and leads are those of the couplers, the coil records
and the injectors' availability, which follows the coil records and the fault contacts (R36). -/
def Obligations.StepsKeepTheTopologyLaw : Prop :=
  ∀ s t : State, topologyLaw s = true → availabilityLaw s = true → step s = .next t →
    topologyLaw t = true ∧ availabilityLaw t = true

/-- Every step keeps the law of the tables (R101): each coil's active table is empty or holds 2 to 32 points with strictly
increasing positions and currents, and an open load holds no more points than it declares. -/
def Obligations.StepsKeepTheTablesLaw : Prop :=
  ∀ s t : State, tablesLaw s = true → loadLaw s = true → step s = .next t → tablesLaw t = true ∧ loadLaw t = true

/-- Every step keeps the capacities (R92, R172, R187, R190): 32 notices, 64 history records, 8 list entries, two requests. Every
step keeps the law of the fault log (R145, R155): at most 16 records, and no section in two open episodes, of which each has one. -/
def Obligations.StepsKeepTheCapacities : Prop :=
  (∀ s t : State, capacityLaw s = true → step s = .next t → capacityLaw t = true) ∧
  (∀ s t : State, faultLogLaw s = true → step s = .next t → faultLogLaw t = true)

/-- Every step keeps the drives' outputs to the states that energize them (the table of states at the head of chapter 7): only a
drive in RUNNING_UP raises and only one in RUNNING_DOWN lowers, so no drive does both; and only a drive in STOPPING coasts (R132).
-/
def Obligations.StepsKeepTheOutputLaw : Prop :=
  ∀ s t : State, outputsLaw s = true → step s = .next t → outputsLaw t = true

/-- Every step keeps the law of episodes and drives (R134): no drive of a coil whose section belongs to an open episode has an
output energized, since a running drive and a pending target are a member's, a running drive's group is in no open episode, and a
drive in IDLE or FAULT holds no pending target (the table of states at the head of chapter 7, R123, R138). Every step keeps the
origins of the targets (R121, R135): a pending target and the target of a running drive have the origin that the mode of the coil
admits. -/
def Obligations.StepsKeepTheLawOfEpisodesAndDrives : Prop :=
  (∀ s t : State, topologyLaw s = true → availabilityLaw s = true → outputsLaw s = true → restLaw s = true → runningLaw s = true →
     step s = .next t → restLaw t = true ∧ runningLaw t = true ∧ episodeDriveLaw t = true) ∧
  (∀ s t : State, topologyLaw s = true → availabilityLaw s = true → outputsLaw s = true → restLaw s = true → runningLaw s = true →
     originLaw s = true → step s = .next t → originLaw t = true)

/-- Every step keeps the law of the cycle machines (R39 to R44): lock and capture exactly while a cycle is in flight, WAITING with
the flag set, IDLE with it clear. Every step keeps the use of the groups and injectors: a group out of use has its machine at rest
and no post-fault hold (R39, R154), a held group has no cycle in flight (R40, R51), and an injector is on only in RUN and only as
the lead of its group's cycle in flight (R38). -/
def Obligations.StepsKeepTheMachineLaw : Prop :=
  (∀ s t : State, machinesLaw s = true → step s = .next t → machinesLaw t = true) ∧
  (∀ s t : State, topologyLaw s = true → availabilityLaw s = true → machinesLaw s = true → useLaw s = true → heldLaw s = true →
     injectorLaw s = true → step s = .next t → useLaw t = true ∧ heldLaw t = true ∧ injectorLaw t = true)

/-- The power-on state keeps every law of the part (R195); that its queue is empty is the model's (log entry 7). -/
def Obligations.ResetKeepsTheLaws : Prop :=
  topologyLaw State.reset = true ∧ availabilityLaw State.reset = true ∧ tablesLaw State.reset = true ∧
    loadLaw State.reset = true ∧ capacityLaw State.reset = true ∧ outputsLaw State.reset = true ∧
    machinesLaw State.reset = true ∧ restLaw State.reset = true ∧ runningLaw State.reset = true ∧
    episodeDriveLaw State.reset = true ∧ faultLogLaw State.reset = true ∧ originLaw State.reset = true ∧
    useLaw State.reset = true ∧ heldLaw State.reset = true ∧ injectorLaw State.reset = true ∧ State.reset.pending = [] ∧ State.reset.runState = .starting
end

