-- ==== Sys2Proof/Laws/State.lean ====
section
/-! SUPPORT. One lemma per field per named update of the state, so that no later proof unfolds an update. -/

namespace Sys2Proof.Machine

/-! ## `State.setDrive` -/

@[simp] theorem State.setDrive_runState (c : Coil) (d : Drive) (s : State) : (s.setDrive c d).runState = s.runState := rfl
@[simp] theorem State.setDrive_time (c : Coil) (d : Drive) (s : State) : (s.setDrive c d).time = s.time := rfl
@[simp] theorem State.setDrive_settings (c : Coil) (d : Drive) (s : State) : (s.setDrive c d).settings = s.settings := rfl
@[simp] theorem State.setDrive_acq (c : Coil) (d : Drive) (s : State) : (s.setDrive c d).acq = s.acq := rfl
@[simp] theorem State.setDrive_tracker (c : Coil) (d : Drive) (s : State) : (s.setDrive c d).tracker = s.tracker := rfl
@[simp] theorem State.setDrive_topo (c : Coil) (d : Drive) (s : State) : (s.setDrive c d).topo = s.topo := rfl
@[simp] theorem State.setDrive_seq (c : Coil) (d : Drive) (s : State) : (s.setDrive c d).seq = s.seq := rfl
@[simp] theorem State.setDrive_est (c : Coil) (d : Drive) (s : State) : (s.setDrive c d).est = s.est := rfl
@[simp] theorem State.setDrive_reg (c : Coil) (d : Drive) (s : State) : (s.setDrive c d).reg = s.reg := rfl
@[simp] theorem State.setDrive_planner (c : Coil) (d : Drive) (s : State) : (s.setDrive c d).planner = s.planner := rfl
@[simp] theorem State.setDrive_drive (c : Coil) (d : Drive) (s : State) : (s.setDrive c d).drive = s.drive.set c d := rfl
@[simp] theorem State.setDrive_sup (c : Coil) (d : Drive) (s : State) : (s.setDrive c d).sup = s.sup := rfl
@[simp] theorem State.setDrive_contacts (c : Coil) (d : Drive) (s : State) : (s.setDrive c d).contacts = s.contacts := rfl
@[simp] theorem State.setDrive_link (c : Coil) (d : Drive) (s : State) : (s.setDrive c d).link = s.link := rfl
@[simp] theorem State.setDrive_events (c : Coil) (d : Drive) (s : State) : (s.setDrive c d).events = s.events := rfl
@[simp] theorem State.setDrive_ring (c : Coil) (d : Drive) (s : State) : (s.setDrive c d).ring = s.ring := rfl
@[simp] theorem State.setDrive_pending (c : Coil) (d : Drive) (s : State) : (s.setDrive c d).pending = s.pending := rfl

/-! ## `State.setMachine` -/

@[simp] theorem State.setMachine_runState (g : Group) (m : CycleMachine) (s : State) : (s.setMachine g m).runState = s.runState := rfl
@[simp] theorem State.setMachine_time (g : Group) (m : CycleMachine) (s : State) : (s.setMachine g m).time = s.time := rfl
@[simp] theorem State.setMachine_settings (g : Group) (m : CycleMachine) (s : State) : (s.setMachine g m).settings = s.settings := rfl
@[simp] theorem State.setMachine_acq (g : Group) (m : CycleMachine) (s : State) : (s.setMachine g m).acq = s.acq := rfl
@[simp] theorem State.setMachine_tracker (g : Group) (m : CycleMachine) (s : State) : (s.setMachine g m).tracker = s.tracker := rfl
@[simp] theorem State.setMachine_topo (g : Group) (m : CycleMachine) (s : State) : (s.setMachine g m).topo = s.topo := rfl
@[simp] theorem State.setMachine_injector (g : Group) (m : CycleMachine) (s : State) : (s.setMachine g m).seq.injector = s.seq.injector := rfl
@[simp] theorem State.setMachine_decisions (g : Group) (m : CycleMachine) (s : State) : (s.setMachine g m).seq.decisions = s.seq.decisions := rfl
@[simp] theorem State.setMachine_machine (g : Group) (m : CycleMachine) (s : State) : (s.setMachine g m).seq.machine = s.seq.machine.set g m := rfl
@[simp] theorem State.setMachine_est (g : Group) (m : CycleMachine) (s : State) : (s.setMachine g m).est = s.est := rfl
@[simp] theorem State.setMachine_reg (g : Group) (m : CycleMachine) (s : State) : (s.setMachine g m).reg = s.reg := rfl
@[simp] theorem State.setMachine_planner (g : Group) (m : CycleMachine) (s : State) : (s.setMachine g m).planner = s.planner := rfl
@[simp] theorem State.setMachine_drive (g : Group) (m : CycleMachine) (s : State) : (s.setMachine g m).drive = s.drive := rfl
@[simp] theorem State.setMachine_sup (g : Group) (m : CycleMachine) (s : State) : (s.setMachine g m).sup = s.sup := rfl
@[simp] theorem State.setMachine_contacts (g : Group) (m : CycleMachine) (s : State) : (s.setMachine g m).contacts = s.contacts := rfl
@[simp] theorem State.setMachine_link (g : Group) (m : CycleMachine) (s : State) : (s.setMachine g m).link = s.link := rfl
@[simp] theorem State.setMachine_events (g : Group) (m : CycleMachine) (s : State) : (s.setMachine g m).events = s.events := rfl
@[simp] theorem State.setMachine_ring (g : Group) (m : CycleMachine) (s : State) : (s.setMachine g m).ring = s.ring := rfl
@[simp] theorem State.setMachine_pending (g : Group) (m : CycleMachine) (s : State) : (s.setMachine g m).pending = s.pending := rfl

/-! ## `State.setInjector` -/

@[simp] theorem State.setInjector_runState (c : Coil) (j : Injector) (s : State) : (s.setInjector c j).runState = s.runState := rfl
@[simp] theorem State.setInjector_time (c : Coil) (j : Injector) (s : State) : (s.setInjector c j).time = s.time := rfl
@[simp] theorem State.setInjector_settings (c : Coil) (j : Injector) (s : State) : (s.setInjector c j).settings = s.settings := rfl
@[simp] theorem State.setInjector_acq (c : Coil) (j : Injector) (s : State) : (s.setInjector c j).acq = s.acq := rfl
@[simp] theorem State.setInjector_tracker (c : Coil) (j : Injector) (s : State) : (s.setInjector c j).tracker = s.tracker := rfl
@[simp] theorem State.setInjector_topo (c : Coil) (j : Injector) (s : State) : (s.setInjector c j).topo = s.topo := rfl
@[simp] theorem State.setInjector_machine (c : Coil) (j : Injector) (s : State) : (s.setInjector c j).seq.machine = s.seq.machine := rfl
@[simp] theorem State.setInjector_decisions (c : Coil) (j : Injector) (s : State) : (s.setInjector c j).seq.decisions = s.seq.decisions := rfl
@[simp] theorem State.setInjector_injector (c : Coil) (j : Injector) (s : State) : (s.setInjector c j).seq.injector = s.seq.injector.set c j := rfl
@[simp] theorem State.setInjector_est (c : Coil) (j : Injector) (s : State) : (s.setInjector c j).est = s.est := rfl
@[simp] theorem State.setInjector_reg (c : Coil) (j : Injector) (s : State) : (s.setInjector c j).reg = s.reg := rfl
@[simp] theorem State.setInjector_planner (c : Coil) (j : Injector) (s : State) : (s.setInjector c j).planner = s.planner := rfl
@[simp] theorem State.setInjector_drive (c : Coil) (j : Injector) (s : State) : (s.setInjector c j).drive = s.drive := rfl
@[simp] theorem State.setInjector_sup (c : Coil) (j : Injector) (s : State) : (s.setInjector c j).sup = s.sup := rfl
@[simp] theorem State.setInjector_contacts (c : Coil) (j : Injector) (s : State) : (s.setInjector c j).contacts = s.contacts := rfl
@[simp] theorem State.setInjector_link (c : Coil) (j : Injector) (s : State) : (s.setInjector c j).link = s.link := rfl
@[simp] theorem State.setInjector_events (c : Coil) (j : Injector) (s : State) : (s.setInjector c j).events = s.events := rfl
@[simp] theorem State.setInjector_ring (c : Coil) (j : Injector) (s : State) : (s.setInjector c j).ring = s.ring := rfl
@[simp] theorem State.setInjector_pending (c : Coil) (j : Injector) (s : State) : (s.setInjector c j).pending = s.pending := rfl

/-! ## `State.setDecisions` -/

@[simp] theorem State.setDecisions_runState (ds : List Decision) (s : State) : (s.setDecisions ds).runState = s.runState := rfl
@[simp] theorem State.setDecisions_time (ds : List Decision) (s : State) : (s.setDecisions ds).time = s.time := rfl
@[simp] theorem State.setDecisions_settings (ds : List Decision) (s : State) : (s.setDecisions ds).settings = s.settings := rfl
@[simp] theorem State.setDecisions_acq (ds : List Decision) (s : State) : (s.setDecisions ds).acq = s.acq := rfl
@[simp] theorem State.setDecisions_tracker (ds : List Decision) (s : State) : (s.setDecisions ds).tracker = s.tracker := rfl
@[simp] theorem State.setDecisions_topo (ds : List Decision) (s : State) : (s.setDecisions ds).topo = s.topo := rfl
@[simp] theorem State.setDecisions_machine (ds : List Decision) (s : State) : (s.setDecisions ds).seq.machine = s.seq.machine := rfl
@[simp] theorem State.setDecisions_injector (ds : List Decision) (s : State) : (s.setDecisions ds).seq.injector = s.seq.injector := rfl
@[simp] theorem State.setDecisions_decisions (ds : List Decision) (s : State) : (s.setDecisions ds).seq.decisions = ds := rfl
@[simp] theorem State.setDecisions_est (ds : List Decision) (s : State) : (s.setDecisions ds).est = s.est := rfl
@[simp] theorem State.setDecisions_reg (ds : List Decision) (s : State) : (s.setDecisions ds).reg = s.reg := rfl
@[simp] theorem State.setDecisions_planner (ds : List Decision) (s : State) : (s.setDecisions ds).planner = s.planner := rfl
@[simp] theorem State.setDecisions_drive (ds : List Decision) (s : State) : (s.setDecisions ds).drive = s.drive := rfl
@[simp] theorem State.setDecisions_sup (ds : List Decision) (s : State) : (s.setDecisions ds).sup = s.sup := rfl
@[simp] theorem State.setDecisions_contacts (ds : List Decision) (s : State) : (s.setDecisions ds).contacts = s.contacts := rfl
@[simp] theorem State.setDecisions_link (ds : List Decision) (s : State) : (s.setDecisions ds).link = s.link := rfl
@[simp] theorem State.setDecisions_events (ds : List Decision) (s : State) : (s.setDecisions ds).events = s.events := rfl
@[simp] theorem State.setDecisions_ring (ds : List Decision) (s : State) : (s.setDecisions ds).ring = s.ring := rfl
@[simp] theorem State.setDecisions_pending (ds : List Decision) (s : State) : (s.setDecisions ds).pending = s.pending := rfl

/-! ## `State.setEst` -/

@[simp] theorem State.setEst_runState (g : Group) (e : Estimate) (s : State) : (s.setEst g e).runState = s.runState := rfl
@[simp] theorem State.setEst_time (g : Group) (e : Estimate) (s : State) : (s.setEst g e).time = s.time := rfl
@[simp] theorem State.setEst_settings (g : Group) (e : Estimate) (s : State) : (s.setEst g e).settings = s.settings := rfl
@[simp] theorem State.setEst_acq (g : Group) (e : Estimate) (s : State) : (s.setEst g e).acq = s.acq := rfl
@[simp] theorem State.setEst_tracker (g : Group) (e : Estimate) (s : State) : (s.setEst g e).tracker = s.tracker := rfl
@[simp] theorem State.setEst_topo (g : Group) (e : Estimate) (s : State) : (s.setEst g e).topo = s.topo := rfl
@[simp] theorem State.setEst_seq (g : Group) (e : Estimate) (s : State) : (s.setEst g e).seq = s.seq := rfl
@[simp] theorem State.setEst_est (g : Group) (e : Estimate) (s : State) : (s.setEst g e).est = s.est.set g e := rfl
@[simp] theorem State.setEst_reg (g : Group) (e : Estimate) (s : State) : (s.setEst g e).reg = s.reg := rfl
@[simp] theorem State.setEst_planner (g : Group) (e : Estimate) (s : State) : (s.setEst g e).planner = s.planner := rfl
@[simp] theorem State.setEst_drive (g : Group) (e : Estimate) (s : State) : (s.setEst g e).drive = s.drive := rfl
@[simp] theorem State.setEst_sup (g : Group) (e : Estimate) (s : State) : (s.setEst g e).sup = s.sup := rfl
@[simp] theorem State.setEst_contacts (g : Group) (e : Estimate) (s : State) : (s.setEst g e).contacts = s.contacts := rfl
@[simp] theorem State.setEst_link (g : Group) (e : Estimate) (s : State) : (s.setEst g e).link = s.link := rfl
@[simp] theorem State.setEst_events (g : Group) (e : Estimate) (s : State) : (s.setEst g e).events = s.events := rfl
@[simp] theorem State.setEst_ring (g : Group) (e : Estimate) (s : State) : (s.setEst g e).ring = s.ring := rfl
@[simp] theorem State.setEst_pending (g : Group) (e : Estimate) (s : State) : (s.setEst g e).pending = s.pending := rfl

/-! ## `State.setFeeder` -/

@[simp] theorem State.setFeeder_runState (n : FeederNo) (f : Feeder) (s : State) : (s.setFeeder n f).runState = s.runState := rfl
@[simp] theorem State.setFeeder_time (n : FeederNo) (f : Feeder) (s : State) : (s.setFeeder n f).time = s.time := rfl
@[simp] theorem State.setFeeder_settings (n : FeederNo) (f : Feeder) (s : State) : (s.setFeeder n f).settings = s.settings := rfl
@[simp] theorem State.setFeeder_acq (n : FeederNo) (f : Feeder) (s : State) : (s.setFeeder n f).acq = s.acq := rfl
@[simp] theorem State.setFeeder_tracker (n : FeederNo) (f : Feeder) (s : State) : (s.setFeeder n f).tracker = s.tracker := rfl
@[simp] theorem State.setFeeder_topo (n : FeederNo) (f : Feeder) (s : State) : (s.setFeeder n f).topo = s.topo := rfl
@[simp] theorem State.setFeeder_seq (n : FeederNo) (f : Feeder) (s : State) : (s.setFeeder n f).seq = s.seq := rfl
@[simp] theorem State.setFeeder_est (n : FeederNo) (f : Feeder) (s : State) : (s.setFeeder n f).est = s.est := rfl
@[simp] theorem State.setFeeder_list (n : FeederNo) (f : Feeder) (s : State) : (s.setFeeder n f).reg.list = s.reg.list := rfl
@[simp] theorem State.setFeeder_taken (n : FeederNo) (f : Feeder) (s : State) : (s.setFeeder n f).reg.taken = s.reg.taken := rfl
@[simp] theorem State.setFeeder_feeder (n : FeederNo) (f : Feeder) (s : State) : (s.setFeeder n f).reg.feeder = s.reg.feeder.set n f := rfl
@[simp] theorem State.setFeeder_planner (n : FeederNo) (f : Feeder) (s : State) : (s.setFeeder n f).planner = s.planner := rfl
@[simp] theorem State.setFeeder_drive (n : FeederNo) (f : Feeder) (s : State) : (s.setFeeder n f).drive = s.drive := rfl
@[simp] theorem State.setFeeder_sup (n : FeederNo) (f : Feeder) (s : State) : (s.setFeeder n f).sup = s.sup := rfl
@[simp] theorem State.setFeeder_contacts (n : FeederNo) (f : Feeder) (s : State) : (s.setFeeder n f).contacts = s.contacts := rfl
@[simp] theorem State.setFeeder_link (n : FeederNo) (f : Feeder) (s : State) : (s.setFeeder n f).link = s.link := rfl
@[simp] theorem State.setFeeder_events (n : FeederNo) (f : Feeder) (s : State) : (s.setFeeder n f).events = s.events := rfl
@[simp] theorem State.setFeeder_ring (n : FeederNo) (f : Feeder) (s : State) : (s.setFeeder n f).ring = s.ring := rfl
@[simp] theorem State.setFeeder_pending (n : FeederNo) (f : Feeder) (s : State) : (s.setFeeder n f).pending = s.pending := rfl

/-! ## `State.setList` -/

@[simp] theorem State.setList_runState (g : Group) (l : TransitionList) (s : State) : (s.setList g l).runState = s.runState := rfl
@[simp] theorem State.setList_time (g : Group) (l : TransitionList) (s : State) : (s.setList g l).time = s.time := rfl
@[simp] theorem State.setList_settings (g : Group) (l : TransitionList) (s : State) : (s.setList g l).settings = s.settings := rfl
@[simp] theorem State.setList_acq (g : Group) (l : TransitionList) (s : State) : (s.setList g l).acq = s.acq := rfl
@[simp] theorem State.setList_tracker (g : Group) (l : TransitionList) (s : State) : (s.setList g l).tracker = s.tracker := rfl
@[simp] theorem State.setList_topo (g : Group) (l : TransitionList) (s : State) : (s.setList g l).topo = s.topo := rfl
@[simp] theorem State.setList_seq (g : Group) (l : TransitionList) (s : State) : (s.setList g l).seq = s.seq := rfl
@[simp] theorem State.setList_est (g : Group) (l : TransitionList) (s : State) : (s.setList g l).est = s.est := rfl
@[simp] theorem State.setList_feeder (g : Group) (l : TransitionList) (s : State) : (s.setList g l).reg.feeder = s.reg.feeder := rfl
@[simp] theorem State.setList_taken (g : Group) (l : TransitionList) (s : State) : (s.setList g l).reg.taken = s.reg.taken := rfl
@[simp] theorem State.setList_list (g : Group) (l : TransitionList) (s : State) : (s.setList g l).reg.list = s.reg.list.set g l := rfl
@[simp] theorem State.setList_planner (g : Group) (l : TransitionList) (s : State) : (s.setList g l).planner = s.planner := rfl
@[simp] theorem State.setList_drive (g : Group) (l : TransitionList) (s : State) : (s.setList g l).drive = s.drive := rfl
@[simp] theorem State.setList_sup (g : Group) (l : TransitionList) (s : State) : (s.setList g l).sup = s.sup := rfl
@[simp] theorem State.setList_contacts (g : Group) (l : TransitionList) (s : State) : (s.setList g l).contacts = s.contacts := rfl
@[simp] theorem State.setList_link (g : Group) (l : TransitionList) (s : State) : (s.setList g l).link = s.link := rfl
@[simp] theorem State.setList_events (g : Group) (l : TransitionList) (s : State) : (s.setList g l).events = s.events := rfl
@[simp] theorem State.setList_ring (g : Group) (l : TransitionList) (s : State) : (s.setList g l).ring = s.ring := rfl
@[simp] theorem State.setList_pending (g : Group) (l : TransitionList) (s : State) : (s.setList g l).pending = s.pending := rfl

/-! ## `State.setPlan` -/

@[simp] theorem State.setPlan_runState (g : Group) (r : PlanRecord) (s : State) : (s.setPlan g r).runState = s.runState := rfl
@[simp] theorem State.setPlan_time (g : Group) (r : PlanRecord) (s : State) : (s.setPlan g r).time = s.time := rfl
@[simp] theorem State.setPlan_settings (g : Group) (r : PlanRecord) (s : State) : (s.setPlan g r).settings = s.settings := rfl
@[simp] theorem State.setPlan_acq (g : Group) (r : PlanRecord) (s : State) : (s.setPlan g r).acq = s.acq := rfl
@[simp] theorem State.setPlan_tracker (g : Group) (r : PlanRecord) (s : State) : (s.setPlan g r).tracker = s.tracker := rfl
@[simp] theorem State.setPlan_topo (g : Group) (r : PlanRecord) (s : State) : (s.setPlan g r).topo = s.topo := rfl
@[simp] theorem State.setPlan_seq (g : Group) (r : PlanRecord) (s : State) : (s.setPlan g r).seq = s.seq := rfl
@[simp] theorem State.setPlan_est (g : Group) (r : PlanRecord) (s : State) : (s.setPlan g r).est = s.est := rfl
@[simp] theorem State.setPlan_reg (g : Group) (r : PlanRecord) (s : State) : (s.setPlan g r).reg = s.reg := rfl
@[simp] theorem State.setPlan_table (g : Group) (r : PlanRecord) (s : State) : (s.setPlan g r).planner.table = s.planner.table := rfl
@[simp] theorem State.setPlan_setpoint (g : Group) (r : PlanRecord) (s : State) : (s.setPlan g r).planner.setpoint = s.planner.setpoint := rfl
@[simp] theorem State.setPlan_record (g : Group) (r : PlanRecord) (s : State) : (s.setPlan g r).planner.record = s.planner.record.set g r := rfl
@[simp] theorem State.setPlan_drive (g : Group) (r : PlanRecord) (s : State) : (s.setPlan g r).drive = s.drive := rfl
@[simp] theorem State.setPlan_sup (g : Group) (r : PlanRecord) (s : State) : (s.setPlan g r).sup = s.sup := rfl
@[simp] theorem State.setPlan_contacts (g : Group) (r : PlanRecord) (s : State) : (s.setPlan g r).contacts = s.contacts := rfl
@[simp] theorem State.setPlan_link (g : Group) (r : PlanRecord) (s : State) : (s.setPlan g r).link = s.link := rfl
@[simp] theorem State.setPlan_events (g : Group) (r : PlanRecord) (s : State) : (s.setPlan g r).events = s.events := rfl
@[simp] theorem State.setPlan_ring (g : Group) (r : PlanRecord) (s : State) : (s.setPlan g r).ring = s.ring := rfl
@[simp] theorem State.setPlan_pending (g : Group) (r : PlanRecord) (s : State) : (s.setPlan g r).pending = s.pending := rfl

/-! ## `State.setWatch` -/

@[simp] theorem State.setWatch_runState (q : Section) (w : SectionWatch) (s : State) : (s.setWatch q w).runState = s.runState := rfl
@[simp] theorem State.setWatch_time (q : Section) (w : SectionWatch) (s : State) : (s.setWatch q w).time = s.time := rfl
@[simp] theorem State.setWatch_settings (q : Section) (w : SectionWatch) (s : State) : (s.setWatch q w).settings = s.settings := rfl
@[simp] theorem State.setWatch_acq (q : Section) (w : SectionWatch) (s : State) : (s.setWatch q w).acq = s.acq := rfl
@[simp] theorem State.setWatch_tracker (q : Section) (w : SectionWatch) (s : State) : (s.setWatch q w).tracker = s.tracker := rfl
@[simp] theorem State.setWatch_topo (q : Section) (w : SectionWatch) (s : State) : (s.setWatch q w).topo = s.topo := rfl
@[simp] theorem State.setWatch_seq (q : Section) (w : SectionWatch) (s : State) : (s.setWatch q w).seq = s.seq := rfl
@[simp] theorem State.setWatch_est (q : Section) (w : SectionWatch) (s : State) : (s.setWatch q w).est = s.est := rfl
@[simp] theorem State.setWatch_reg (q : Section) (w : SectionWatch) (s : State) : (s.setWatch q w).reg = s.reg := rfl
@[simp] theorem State.setWatch_planner (q : Section) (w : SectionWatch) (s : State) : (s.setWatch q w).planner = s.planner := rfl
@[simp] theorem State.setWatch_drive (q : Section) (w : SectionWatch) (s : State) : (s.setWatch q w).drive = s.drive := rfl
@[simp] theorem State.setWatch_hold (q : Section) (w : SectionWatch) (s : State) : (s.setWatch q w).sup.hold = s.sup.hold := rfl
@[simp] theorem State.setWatch_log (q : Section) (w : SectionWatch) (s : State) : (s.setWatch q w).sup.log = s.sup.log := rfl
@[simp] theorem State.setWatch_next (q : Section) (w : SectionWatch) (s : State) : (s.setWatch q w).sup.next = s.sup.next := rfl
@[simp] theorem State.setWatch_watch (q : Section) (w : SectionWatch) (s : State) : (s.setWatch q w).sup.watch = s.sup.watch.set q w := rfl
@[simp] theorem State.setWatch_contacts (q : Section) (w : SectionWatch) (s : State) : (s.setWatch q w).contacts = s.contacts := rfl
@[simp] theorem State.setWatch_link (q : Section) (w : SectionWatch) (s : State) : (s.setWatch q w).link = s.link := rfl
@[simp] theorem State.setWatch_events (q : Section) (w : SectionWatch) (s : State) : (s.setWatch q w).events = s.events := rfl
@[simp] theorem State.setWatch_ring (q : Section) (w : SectionWatch) (s : State) : (s.setWatch q w).ring = s.ring := rfl
@[simp] theorem State.setWatch_pending (q : Section) (w : SectionWatch) (s : State) : (s.setWatch q w).pending = s.pending := rfl

/-! ## `State.setHold` -/

@[simp] theorem State.setHold_runState (g : Group) (t : Option Nat) (s : State) : (s.setHold g t).runState = s.runState := rfl
@[simp] theorem State.setHold_time (g : Group) (t : Option Nat) (s : State) : (s.setHold g t).time = s.time := rfl
@[simp] theorem State.setHold_settings (g : Group) (t : Option Nat) (s : State) : (s.setHold g t).settings = s.settings := rfl
@[simp] theorem State.setHold_acq (g : Group) (t : Option Nat) (s : State) : (s.setHold g t).acq = s.acq := rfl
@[simp] theorem State.setHold_tracker (g : Group) (t : Option Nat) (s : State) : (s.setHold g t).tracker = s.tracker := rfl
@[simp] theorem State.setHold_topo (g : Group) (t : Option Nat) (s : State) : (s.setHold g t).topo = s.topo := rfl
@[simp] theorem State.setHold_seq (g : Group) (t : Option Nat) (s : State) : (s.setHold g t).seq = s.seq := rfl
@[simp] theorem State.setHold_est (g : Group) (t : Option Nat) (s : State) : (s.setHold g t).est = s.est := rfl
@[simp] theorem State.setHold_reg (g : Group) (t : Option Nat) (s : State) : (s.setHold g t).reg = s.reg := rfl
@[simp] theorem State.setHold_planner (g : Group) (t : Option Nat) (s : State) : (s.setHold g t).planner = s.planner := rfl
@[simp] theorem State.setHold_drive (g : Group) (t : Option Nat) (s : State) : (s.setHold g t).drive = s.drive := rfl
@[simp] theorem State.setHold_watch (g : Group) (t : Option Nat) (s : State) : (s.setHold g t).sup.watch = s.sup.watch := rfl
@[simp] theorem State.setHold_log (g : Group) (t : Option Nat) (s : State) : (s.setHold g t).sup.log = s.sup.log := rfl
@[simp] theorem State.setHold_next (g : Group) (t : Option Nat) (s : State) : (s.setHold g t).sup.next = s.sup.next := rfl
@[simp] theorem State.setHold_hold (g : Group) (t : Option Nat) (s : State) : (s.setHold g t).sup.hold = s.sup.hold.set g t := rfl
@[simp] theorem State.setHold_contacts (g : Group) (t : Option Nat) (s : State) : (s.setHold g t).contacts = s.contacts := rfl
@[simp] theorem State.setHold_link (g : Group) (t : Option Nat) (s : State) : (s.setHold g t).link = s.link := rfl
@[simp] theorem State.setHold_events (g : Group) (t : Option Nat) (s : State) : (s.setHold g t).events = s.events := rfl
@[simp] theorem State.setHold_ring (g : Group) (t : Option Nat) (s : State) : (s.setHold g t).ring = s.ring := rfl
@[simp] theorem State.setHold_pending (g : Group) (t : Option Nat) (s : State) : (s.setHold g t).pending = s.pending := rfl

/-! ## `State.setLog` -/

@[simp] theorem State.setLog_runState (l : List EpisodeRecord) (s : State) : (s.setLog l).runState = s.runState := rfl
@[simp] theorem State.setLog_time (l : List EpisodeRecord) (s : State) : (s.setLog l).time = s.time := rfl
@[simp] theorem State.setLog_settings (l : List EpisodeRecord) (s : State) : (s.setLog l).settings = s.settings := rfl
@[simp] theorem State.setLog_acq (l : List EpisodeRecord) (s : State) : (s.setLog l).acq = s.acq := rfl
@[simp] theorem State.setLog_tracker (l : List EpisodeRecord) (s : State) : (s.setLog l).tracker = s.tracker := rfl
@[simp] theorem State.setLog_topo (l : List EpisodeRecord) (s : State) : (s.setLog l).topo = s.topo := rfl
@[simp] theorem State.setLog_seq (l : List EpisodeRecord) (s : State) : (s.setLog l).seq = s.seq := rfl
@[simp] theorem State.setLog_est (l : List EpisodeRecord) (s : State) : (s.setLog l).est = s.est := rfl
@[simp] theorem State.setLog_reg (l : List EpisodeRecord) (s : State) : (s.setLog l).reg = s.reg := rfl
@[simp] theorem State.setLog_planner (l : List EpisodeRecord) (s : State) : (s.setLog l).planner = s.planner := rfl
@[simp] theorem State.setLog_drive (l : List EpisodeRecord) (s : State) : (s.setLog l).drive = s.drive := rfl
@[simp] theorem State.setLog_watch (l : List EpisodeRecord) (s : State) : (s.setLog l).sup.watch = s.sup.watch := rfl
@[simp] theorem State.setLog_hold (l : List EpisodeRecord) (s : State) : (s.setLog l).sup.hold = s.sup.hold := rfl
@[simp] theorem State.setLog_next (l : List EpisodeRecord) (s : State) : (s.setLog l).sup.next = s.sup.next := rfl
@[simp] theorem State.setLog_log (l : List EpisodeRecord) (s : State) : (s.setLog l).sup.log = l := rfl
@[simp] theorem State.setLog_contacts (l : List EpisodeRecord) (s : State) : (s.setLog l).contacts = s.contacts := rfl
@[simp] theorem State.setLog_link (l : List EpisodeRecord) (s : State) : (s.setLog l).link = s.link := rfl
@[simp] theorem State.setLog_events (l : List EpisodeRecord) (s : State) : (s.setLog l).events = s.events := rfl
@[simp] theorem State.setLog_ring (l : List EpisodeRecord) (s : State) : (s.setLog l).ring = s.ring := rfl
@[simp] theorem State.setLog_pending (l : List EpisodeRecord) (s : State) : (s.setLog l).pending = s.pending := rfl

/-! ## `State.setInput` -/

@[simp] theorem State.setInput_runState (i : ContactNo) (r : ContactInput) (s : State) : (s.setInput i r).runState = s.runState := rfl
@[simp] theorem State.setInput_time (i : ContactNo) (r : ContactInput) (s : State) : (s.setInput i r).time = s.time := rfl
@[simp] theorem State.setInput_settings (i : ContactNo) (r : ContactInput) (s : State) : (s.setInput i r).settings = s.settings := rfl
@[simp] theorem State.setInput_acq (i : ContactNo) (r : ContactInput) (s : State) : (s.setInput i r).acq = s.acq := rfl
@[simp] theorem State.setInput_tracker (i : ContactNo) (r : ContactInput) (s : State) : (s.setInput i r).tracker = s.tracker := rfl
@[simp] theorem State.setInput_topo (i : ContactNo) (r : ContactInput) (s : State) : (s.setInput i r).topo = s.topo := rfl
@[simp] theorem State.setInput_seq (i : ContactNo) (r : ContactInput) (s : State) : (s.setInput i r).seq = s.seq := rfl
@[simp] theorem State.setInput_est (i : ContactNo) (r : ContactInput) (s : State) : (s.setInput i r).est = s.est := rfl
@[simp] theorem State.setInput_reg (i : ContactNo) (r : ContactInput) (s : State) : (s.setInput i r).reg = s.reg := rfl
@[simp] theorem State.setInput_planner (i : ContactNo) (r : ContactInput) (s : State) : (s.setInput i r).planner = s.planner := rfl
@[simp] theorem State.setInput_drive (i : ContactNo) (r : ContactInput) (s : State) : (s.setInput i r).drive = s.drive := rfl
@[simp] theorem State.setInput_sup (i : ContactNo) (r : ContactInput) (s : State) : (s.setInput i r).sup = s.sup := rfl
@[simp] theorem State.setInput_indication (i : ContactNo) (r : ContactInput) (s : State) : (s.setInput i r).contacts.indication = s.contacts.indication := rfl
@[simp] theorem State.setInput_startTimer (i : ContactNo) (r : ContactInput) (s : State) : (s.setInput i r).contacts.startTimer = s.contacts.startTimer := rfl
@[simp] theorem State.setInput_input (i : ContactNo) (r : ContactInput) (s : State) : (s.setInput i r).contacts.input = s.contacts.input.set i r := rfl
@[simp] theorem State.setInput_link (i : ContactNo) (r : ContactInput) (s : State) : (s.setInput i r).link = s.link := rfl
@[simp] theorem State.setInput_events (i : ContactNo) (r : ContactInput) (s : State) : (s.setInput i r).events = s.events := rfl
@[simp] theorem State.setInput_ring (i : ContactNo) (r : ContactInput) (s : State) : (s.setInput i r).ring = s.ring := rfl
@[simp] theorem State.setInput_pending (i : ContactNo) (r : ContactInput) (s : State) : (s.setInput i r).pending = s.pending := rfl

/-! ## `State.setIndication` -/

@[simp] theorem State.setIndication_runState (k : Coupler) (r : Indication) (s : State) : (s.setIndication k r).runState = s.runState := rfl
@[simp] theorem State.setIndication_time (k : Coupler) (r : Indication) (s : State) : (s.setIndication k r).time = s.time := rfl
@[simp] theorem State.setIndication_settings (k : Coupler) (r : Indication) (s : State) : (s.setIndication k r).settings = s.settings := rfl
@[simp] theorem State.setIndication_acq (k : Coupler) (r : Indication) (s : State) : (s.setIndication k r).acq = s.acq := rfl
@[simp] theorem State.setIndication_tracker (k : Coupler) (r : Indication) (s : State) : (s.setIndication k r).tracker = s.tracker := rfl
@[simp] theorem State.setIndication_topo (k : Coupler) (r : Indication) (s : State) : (s.setIndication k r).topo = s.topo := rfl
@[simp] theorem State.setIndication_seq (k : Coupler) (r : Indication) (s : State) : (s.setIndication k r).seq = s.seq := rfl
@[simp] theorem State.setIndication_est (k : Coupler) (r : Indication) (s : State) : (s.setIndication k r).est = s.est := rfl
@[simp] theorem State.setIndication_reg (k : Coupler) (r : Indication) (s : State) : (s.setIndication k r).reg = s.reg := rfl
@[simp] theorem State.setIndication_planner (k : Coupler) (r : Indication) (s : State) : (s.setIndication k r).planner = s.planner := rfl
@[simp] theorem State.setIndication_drive (k : Coupler) (r : Indication) (s : State) : (s.setIndication k r).drive = s.drive := rfl
@[simp] theorem State.setIndication_sup (k : Coupler) (r : Indication) (s : State) : (s.setIndication k r).sup = s.sup := rfl
@[simp] theorem State.setIndication_input (k : Coupler) (r : Indication) (s : State) : (s.setIndication k r).contacts.input = s.contacts.input := rfl
@[simp] theorem State.setIndication_startTimer (k : Coupler) (r : Indication) (s : State) : (s.setIndication k r).contacts.startTimer = s.contacts.startTimer := rfl
@[simp] theorem State.setIndication_indication (k : Coupler) (r : Indication) (s : State) : (s.setIndication k r).contacts.indication = s.contacts.indication.set k r := rfl
@[simp] theorem State.setIndication_link (k : Coupler) (r : Indication) (s : State) : (s.setIndication k r).link = s.link := rfl
@[simp] theorem State.setIndication_events (k : Coupler) (r : Indication) (s : State) : (s.setIndication k r).events = s.events := rfl
@[simp] theorem State.setIndication_ring (k : Coupler) (r : Indication) (s : State) : (s.setIndication k r).ring = s.ring := rfl
@[simp] theorem State.setIndication_pending (k : Coupler) (r : Indication) (s : State) : (s.setIndication k r).pending = s.pending := rfl

end Sys2Proof.Machine
end

