-- ==== Sys2Proof/Laws/Frames.lean ====
section
/-! SUPPORT. What each operation of the blocks leaves alone: one lemma per operation and field it does not touch. `State.fixed`
bundles the fields that no operation of a block touches but the owner's. -/

namespace Sys2Proof.Machine

/-- The fields that only requests, pins, the tracker, the acquisition unit and the clock write. -/
structure Fixed where
  runState : RunState
  time : Nat
  settings : Settings
  acq : Acquisition
  tracker : Tracker
  contacts : ContactUnit
  link : Link
  pending : List Instr
  table : Vector (List Point) 4
  setpoint : Vector Int 4

/-- The fixed fields of a state. -/
def State.fixed (s : State) : Fixed :=
  ⟨s.runState, s.time, s.settings, s.acq, s.tracker, s.contacts, s.link, s.pending, s.planner.table, s.planner.setpoint⟩


@[simp] theorem State.setDrive_fixed (c : Coil) (d : Drive) (s : State) : (s.setDrive c d).fixed = s.fixed := rfl
@[simp] theorem State.setMachine_fixed (g : Group) (m : CycleMachine) (s : State) : (s.setMachine g m).fixed = s.fixed := rfl
@[simp] theorem State.setInjector_fixed (c : Coil) (j : Injector) (s : State) : (s.setInjector c j).fixed = s.fixed := rfl
@[simp] theorem State.setDecisions_fixed (x : List Decision) (s : State) : (s.setDecisions x).fixed = s.fixed := rfl
@[simp] theorem State.setEst_fixed (g : Group) (e : Estimate) (s : State) : (s.setEst g e).fixed = s.fixed := rfl
@[simp] theorem State.setFeeder_fixed (n : FeederNo) (f : Feeder) (s : State) : (s.setFeeder n f).fixed = s.fixed := rfl
@[simp] theorem State.setList_fixed (g : Group) (l : TransitionList) (s : State) : (s.setList g l).fixed = s.fixed := rfl
@[simp] theorem State.setPlan_fixed (g : Group) (r : PlanRecord) (s : State) : (s.setPlan g r).fixed = s.fixed := rfl
@[simp] theorem State.setWatch_fixed (q : Section) (w : SectionWatch) (s : State) : (s.setWatch q w).fixed = s.fixed := rfl
@[simp] theorem State.setHold_fixed (g : Group) (t : Option Nat) (s : State) : (s.setHold g t).fixed = s.fixed := rfl
@[simp] theorem State.setLog_fixed (l : List EpisodeRecord) (s : State) : (s.setLog l).fixed = s.fixed := rfl
@[simp] theorem fixed_with_topo (s : State) (x : Topology) : ({ s with topo := x } : State).fixed = s.fixed := rfl
@[simp] theorem fixed_with_seq (s : State) (x : Sequencer) : ({ s with seq := x } : State).fixed = s.fixed := rfl
@[simp] theorem fixed_with_est (s : State) (x : Vector Estimate 4) : ({ s with est := x } : State).fixed = s.fixed := rfl
@[simp] theorem fixed_with_reg (s : State) (x : FeederRegister) : ({ s with reg := x } : State).fixed = s.fixed := rfl
@[simp] theorem fixed_with_drive (s : State) (x : Vector Drive 4) : ({ s with drive := x } : State).fixed = s.fixed := rfl
@[simp] theorem fixed_with_sup (s : State) (x : Supervisor) : ({ s with sup := x } : State).fixed = s.fixed := rfl
@[simp] theorem fixed_with_events (s : State) (x : EventUnit) : ({ s with events := x } : State).fixed = s.fixed := rfl
@[simp] theorem fixed_with_ring (s : State) (x : HistoryRing) : ({ s with ring := x } : State).fixed = s.fixed := rfl

/-- What every operation of a list keeps, the list keeps. -/
theorem forEach_keeps {α β : Type} (p : State → β) (f : α → State → State) (h : ∀ x s, p (f x s) = p s) (xs : List α) (s : State) :
    p (forEach xs f s) = p s := by
  unfold forEach
  induction xs generalizing s with
  | nil => rfl
  | cons x xs ih => rw [List.foldl_cons, ih, h]

@[simp] theorem forEach_fixed {α : Type} (xs : List α) (f : α → State → State) (s : State)
    (h : ∀ x s, (f x s).fixed = s.fixed) : (forEach xs f s).fixed = s.fixed := forEach_keeps (fun s => s.fixed) f h xs s
@[simp] theorem forEach_topo {α : Type} (xs : List α) (f : α → State → State) (s : State)
    (h : ∀ x s, (f x s).topo = s.topo) : (forEach xs f s).topo = s.topo := forEach_keeps (fun s => s.topo) f h xs s
@[simp] theorem forEach_est {α : Type} (xs : List α) (f : α → State → State) (s : State)
    (h : ∀ x s, (f x s).est = s.est) : (forEach xs f s).est = s.est := forEach_keeps (fun s => s.est) f h xs s
@[simp] theorem forEach_drive {α : Type} (xs : List α) (f : α → State → State) (s : State)
    (h : ∀ x s, (f x s).drive = s.drive) : (forEach xs f s).drive = s.drive := forEach_keeps (fun s => s.drive) f h xs s
@[simp] theorem forEach_events {α : Type} (xs : List α) (f : α → State → State) (s : State)
    (h : ∀ x s, (f x s).events = s.events) : (forEach xs f s).events = s.events := forEach_keeps (fun s => s.events) f h xs s
@[simp] theorem forEach_ring {α : Type} (xs : List α) (f : α → State → State) (s : State)
    (h : ∀ x s, (f x s).ring = s.ring) : (forEach xs f s).ring = s.ring := forEach_keeps (fun s => s.ring) f h xs s
@[simp] theorem forEach_seq {α : Type} (xs : List α) (f : α → State → State) (s : State)
    (h : ∀ x s, (f x s).seq = s.seq) : (forEach xs f s).seq = s.seq := forEach_keeps (fun s => s.seq) f h xs s
@[simp] theorem forEach_seq_machine {α : Type} (xs : List α) (f : α → State → State) (s : State)
    (h : ∀ x s, (f x s).seq.machine = s.seq.machine) : (forEach xs f s).seq.machine = s.seq.machine := forEach_keeps (fun s => s.seq.machine) f h xs s
@[simp] theorem forEach_seq_injector {α : Type} (xs : List α) (f : α → State → State) (s : State)
    (h : ∀ x s, (f x s).seq.injector = s.seq.injector) : (forEach xs f s).seq.injector = s.seq.injector := forEach_keeps (fun s => s.seq.injector) f h xs s
@[simp] theorem forEach_seq_decisions {α : Type} (xs : List α) (f : α → State → State) (s : State)
    (h : ∀ x s, (f x s).seq.decisions = s.seq.decisions) : (forEach xs f s).seq.decisions = s.seq.decisions := forEach_keeps (fun s => s.seq.decisions) f h xs s
@[simp] theorem forEach_reg {α : Type} (xs : List α) (f : α → State → State) (s : State)
    (h : ∀ x s, (f x s).reg = s.reg) : (forEach xs f s).reg = s.reg := forEach_keeps (fun s => s.reg) f h xs s
@[simp] theorem forEach_reg_feeder {α : Type} (xs : List α) (f : α → State → State) (s : State)
    (h : ∀ x s, (f x s).reg.feeder = s.reg.feeder) : (forEach xs f s).reg.feeder = s.reg.feeder := forEach_keeps (fun s => s.reg.feeder) f h xs s
@[simp] theorem forEach_reg_list {α : Type} (xs : List α) (f : α → State → State) (s : State)
    (h : ∀ x s, (f x s).reg.list = s.reg.list) : (forEach xs f s).reg.list = s.reg.list := forEach_keeps (fun s => s.reg.list) f h xs s
@[simp] theorem forEach_reg_taken {α : Type} (xs : List α) (f : α → State → State) (s : State)
    (h : ∀ x s, (f x s).reg.taken = s.reg.taken) : (forEach xs f s).reg.taken = s.reg.taken := forEach_keeps (fun s => s.reg.taken) f h xs s
@[simp] theorem forEach_planner {α : Type} (xs : List α) (f : α → State → State) (s : State)
    (h : ∀ x s, (f x s).planner = s.planner) : (forEach xs f s).planner = s.planner := forEach_keeps (fun s => s.planner) f h xs s
@[simp] theorem forEach_planner_record {α : Type} (xs : List α) (f : α → State → State) (s : State)
    (h : ∀ x s, (f x s).planner.record = s.planner.record) : (forEach xs f s).planner.record = s.planner.record := forEach_keeps (fun s => s.planner.record) f h xs s
@[simp] theorem forEach_sup {α : Type} (xs : List α) (f : α → State → State) (s : State)
    (h : ∀ x s, (f x s).sup = s.sup) : (forEach xs f s).sup = s.sup := forEach_keeps (fun s => s.sup) f h xs s
@[simp] theorem forEach_sup_watch {α : Type} (xs : List α) (f : α → State → State) (s : State)
    (h : ∀ x s, (f x s).sup.watch = s.sup.watch) : (forEach xs f s).sup.watch = s.sup.watch := forEach_keeps (fun s => s.sup.watch) f h xs s
@[simp] theorem forEach_sup_hold {α : Type} (xs : List α) (f : α → State → State) (s : State)
    (h : ∀ x s, (f x s).sup.hold = s.sup.hold) : (forEach xs f s).sup.hold = s.sup.hold := forEach_keeps (fun s => s.sup.hold) f h xs s
@[simp] theorem forEach_sup_log {α : Type} (xs : List α) (f : α → State → State) (s : State)
    (h : ∀ x s, (f x s).sup.log = s.sup.log) : (forEach xs f s).sup.log = s.sup.log := forEach_keeps (fun s => s.sup.log) f h xs s
@[simp] theorem forEach_sup_next {α : Type} (xs : List α) (f : α → State → State) (s : State)
    (h : ∀ x s, (f x s).sup.next = s.sup.next) : (forEach xs f s).sup.next = s.sup.next := forEach_keeps (fun s => s.sup.next) f h xs s

/-! ## `raiseEvent` -/

@[simp] theorem raiseEvent_fixed (k : EventKind) (u : Option Nat) (v : List (Option Int)) (s : State) : (raiseEvent k u v s).fixed = s.fixed := by
  rfl
@[simp] theorem raiseEvent_topo (k : EventKind) (u : Option Nat) (v : List (Option Int)) (s : State) : (raiseEvent k u v s).topo = s.topo := by
  rfl
@[simp] theorem raiseEvent_est (k : EventKind) (u : Option Nat) (v : List (Option Int)) (s : State) : (raiseEvent k u v s).est = s.est := by
  rfl
@[simp] theorem raiseEvent_drive (k : EventKind) (u : Option Nat) (v : List (Option Int)) (s : State) : (raiseEvent k u v s).drive = s.drive := by
  rfl
@[simp] theorem raiseEvent_ring (k : EventKind) (u : Option Nat) (v : List (Option Int)) (s : State) : (raiseEvent k u v s).ring = s.ring := by
  rfl
@[simp] theorem raiseEvent_seq (k : EventKind) (u : Option Nat) (v : List (Option Int)) (s : State) : (raiseEvent k u v s).seq = s.seq := by
  rfl
@[simp] theorem raiseEvent_reg (k : EventKind) (u : Option Nat) (v : List (Option Int)) (s : State) : (raiseEvent k u v s).reg = s.reg := by
  rfl
@[simp] theorem raiseEvent_sup (k : EventKind) (u : Option Nat) (v : List (Option Int)) (s : State) : (raiseEvent k u v s).sup = s.sup := by
  rfl
@[simp] theorem raiseEvent_planner (k : EventKind) (u : Option Nat) (v : List (Option Int)) (s : State) : (raiseEvent k u v s).planner = s.planner := by
  rfl

/-! ## `setFlag` -/

@[simp] theorem setFlag_fixed (g : Group) (s : State) : (setFlag g s).fixed = s.fixed := by
  first | (unfold setFlag; simp; done) | (unfold setFlag; (try dsimp only); (repeat' split) <;> simp; done)
@[simp] theorem setFlag_topo (g : Group) (s : State) : (setFlag g s).topo = s.topo := by
  first | (unfold setFlag; simp; done) | (unfold setFlag; (try dsimp only); (repeat' split) <;> simp; done)
@[simp] theorem setFlag_est (g : Group) (s : State) : (setFlag g s).est = s.est := by
  first | (unfold setFlag; simp; done) | (unfold setFlag; (try dsimp only); (repeat' split) <;> simp; done)
@[simp] theorem setFlag_drive (g : Group) (s : State) : (setFlag g s).drive = s.drive := by
  first | (unfold setFlag; simp; done) | (unfold setFlag; (try dsimp only); (repeat' split) <;> simp; done)
@[simp] theorem setFlag_events (g : Group) (s : State) : (setFlag g s).events = s.events := by
  first | (unfold setFlag; simp; done) | (unfold setFlag; (try dsimp only); (repeat' split) <;> simp; done)
@[simp] theorem setFlag_ring (g : Group) (s : State) : (setFlag g s).ring = s.ring := by
  first | (unfold setFlag; simp; done) | (unfold setFlag; (try dsimp only); (repeat' split) <;> simp; done)
@[simp] theorem setFlag_seq_injector (g : Group) (s : State) : (setFlag g s).seq.injector = s.seq.injector := by
  first | (unfold setFlag; simp; done) | (unfold setFlag; (try dsimp only); (repeat' split) <;> simp; done)
@[simp] theorem setFlag_reg (g : Group) (s : State) : (setFlag g s).reg = s.reg := by
  first | (unfold setFlag; simp; done) | (unfold setFlag; (try dsimp only); (repeat' split) <;> simp; done)
@[simp] theorem setFlag_sup (g : Group) (s : State) : (setFlag g s).sup = s.sup := by
  first | (unfold setFlag; simp; done) | (unfold setFlag; (try dsimp only); (repeat' split) <;> simp; done)
@[simp] theorem setFlag_planner (g : Group) (s : State) : (setFlag g s).planner = s.planner := by
  first | (unfold setFlag; simp; done) | (unfold setFlag; (try dsimp only); (repeat' split) <;> simp; done)

/-! ## `switchTrigger` -/

@[simp] theorem switchTrigger_fixed (g : Group) (s : State) : (switchTrigger g s).fixed = s.fixed := by
  first | (unfold switchTrigger; simp; done) | (unfold switchTrigger; (try dsimp only); (repeat' split) <;> simp; done)
@[simp] theorem switchTrigger_topo (g : Group) (s : State) : (switchTrigger g s).topo = s.topo := by
  first | (unfold switchTrigger; simp; done) | (unfold switchTrigger; (try dsimp only); (repeat' split) <;> simp; done)
@[simp] theorem switchTrigger_est (g : Group) (s : State) : (switchTrigger g s).est = s.est := by
  first | (unfold switchTrigger; simp; done) | (unfold switchTrigger; (try dsimp only); (repeat' split) <;> simp; done)
@[simp] theorem switchTrigger_drive (g : Group) (s : State) : (switchTrigger g s).drive = s.drive := by
  first | (unfold switchTrigger; simp; done) | (unfold switchTrigger; (try dsimp only); (repeat' split) <;> simp; done)
@[simp] theorem switchTrigger_events (g : Group) (s : State) : (switchTrigger g s).events = s.events := by
  first | (unfold switchTrigger; simp; done) | (unfold switchTrigger; (try dsimp only); (repeat' split) <;> simp; done)
@[simp] theorem switchTrigger_ring (g : Group) (s : State) : (switchTrigger g s).ring = s.ring := by
  first | (unfold switchTrigger; simp; done) | (unfold switchTrigger; (try dsimp only); (repeat' split) <;> simp; done)
@[simp] theorem switchTrigger_seq_injector (g : Group) (s : State) : (switchTrigger g s).seq.injector = s.seq.injector := by
  first | (unfold switchTrigger; simp; done) | (unfold switchTrigger; (try dsimp only); (repeat' split) <;> simp; done)
@[simp] theorem switchTrigger_reg (g : Group) (s : State) : (switchTrigger g s).reg = s.reg := by
  first | (unfold switchTrigger; simp; done) | (unfold switchTrigger; (try dsimp only); (repeat' split) <;> simp; done)
@[simp] theorem switchTrigger_sup (g : Group) (s : State) : (switchTrigger g s).sup = s.sup := by
  first | (unfold switchTrigger; simp; done) | (unfold switchTrigger; (try dsimp only); (repeat' split) <;> simp; done)
@[simp] theorem switchTrigger_planner (g : Group) (s : State) : (switchTrigger g s).planner = s.planner := by
  first | (unfold switchTrigger; simp; done) | (unfold switchTrigger; (try dsimp only); (repeat' split) <;> simp; done)

/-! ## `restartPeriodic` -/

@[simp] theorem restartPeriodic_fixed (g : Group) (s : State) : (restartPeriodic g s).fixed = s.fixed := by
  rfl
@[simp] theorem restartPeriodic_topo (g : Group) (s : State) : (restartPeriodic g s).topo = s.topo := by
  rfl
@[simp] theorem restartPeriodic_est (g : Group) (s : State) : (restartPeriodic g s).est = s.est := by
  rfl
@[simp] theorem restartPeriodic_drive (g : Group) (s : State) : (restartPeriodic g s).drive = s.drive := by
  rfl
@[simp] theorem restartPeriodic_events (g : Group) (s : State) : (restartPeriodic g s).events = s.events := by
  rfl
@[simp] theorem restartPeriodic_ring (g : Group) (s : State) : (restartPeriodic g s).ring = s.ring := by
  rfl
@[simp] theorem restartPeriodic_seq_injector (g : Group) (s : State) : (restartPeriodic g s).seq.injector = s.seq.injector := by
  rfl
@[simp] theorem restartPeriodic_reg (g : Group) (s : State) : (restartPeriodic g s).reg = s.reg := by
  rfl
@[simp] theorem restartPeriodic_sup (g : Group) (s : State) : (restartPeriodic g s).sup = s.sup := by
  rfl
@[simp] theorem restartPeriodic_planner (g : Group) (s : State) : (restartPeriodic g s).planner = s.planner := by
  rfl

/-! ## `injectorOn` -/

@[simp] theorem injectorOn_fixed (c : Coil) (l : Nat) (s : State) : (injectorOn c l s).fixed = s.fixed := by
  rfl
@[simp] theorem injectorOn_topo (c : Coil) (l : Nat) (s : State) : (injectorOn c l s).topo = s.topo := by
  rfl
@[simp] theorem injectorOn_est (c : Coil) (l : Nat) (s : State) : (injectorOn c l s).est = s.est := by
  rfl
@[simp] theorem injectorOn_drive (c : Coil) (l : Nat) (s : State) : (injectorOn c l s).drive = s.drive := by
  rfl
@[simp] theorem injectorOn_events (c : Coil) (l : Nat) (s : State) : (injectorOn c l s).events = s.events := by
  rfl
@[simp] theorem injectorOn_ring (c : Coil) (l : Nat) (s : State) : (injectorOn c l s).ring = s.ring := by
  rfl
@[simp] theorem injectorOn_seq_machine (c : Coil) (l : Nat) (s : State) : (injectorOn c l s).seq.machine = s.seq.machine := by
  rfl
@[simp] theorem injectorOn_reg (c : Coil) (l : Nat) (s : State) : (injectorOn c l s).reg = s.reg := by
  rfl
@[simp] theorem injectorOn_sup (c : Coil) (l : Nat) (s : State) : (injectorOn c l s).sup = s.sup := by
  rfl
@[simp] theorem injectorOn_planner (c : Coil) (l : Nat) (s : State) : (injectorOn c l s).planner = s.planner := by
  rfl

/-! ## `injectorFlip` -/

@[simp] theorem injectorFlip_fixed (c : Coil) (s : State) : (injectorFlip c s).fixed = s.fixed := by
  rfl
@[simp] theorem injectorFlip_topo (c : Coil) (s : State) : (injectorFlip c s).topo = s.topo := by
  rfl
@[simp] theorem injectorFlip_est (c : Coil) (s : State) : (injectorFlip c s).est = s.est := by
  rfl
@[simp] theorem injectorFlip_drive (c : Coil) (s : State) : (injectorFlip c s).drive = s.drive := by
  rfl
@[simp] theorem injectorFlip_events (c : Coil) (s : State) : (injectorFlip c s).events = s.events := by
  rfl
@[simp] theorem injectorFlip_ring (c : Coil) (s : State) : (injectorFlip c s).ring = s.ring := by
  rfl
@[simp] theorem injectorFlip_seq_machine (c : Coil) (s : State) : (injectorFlip c s).seq.machine = s.seq.machine := by
  rfl
@[simp] theorem injectorFlip_reg (c : Coil) (s : State) : (injectorFlip c s).reg = s.reg := by
  rfl
@[simp] theorem injectorFlip_sup (c : Coil) (s : State) : (injectorFlip c s).sup = s.sup := by
  rfl
@[simp] theorem injectorFlip_planner (c : Coil) (s : State) : (injectorFlip c s).planner = s.planner := by
  rfl

/-! ## `injectorOff` -/

@[simp] theorem injectorOff_fixed (c : Coil) (g : Group) (s : State) : (injectorOff c g s).fixed = s.fixed := by
  first | (unfold injectorOff; simp; done) | (unfold injectorOff; (try dsimp only); (repeat' split) <;> simp; done)
@[simp] theorem injectorOff_topo (c : Coil) (g : Group) (s : State) : (injectorOff c g s).topo = s.topo := by
  first | (unfold injectorOff; simp; done) | (unfold injectorOff; (try dsimp only); (repeat' split) <;> simp; done)
@[simp] theorem injectorOff_drive (c : Coil) (g : Group) (s : State) : (injectorOff c g s).drive = s.drive := by
  first | (unfold injectorOff; simp; done) | (unfold injectorOff; (try dsimp only); (repeat' split) <;> simp; done)
@[simp] theorem injectorOff_events (c : Coil) (g : Group) (s : State) : (injectorOff c g s).events = s.events := by
  first | (unfold injectorOff; simp; done) | (unfold injectorOff; (try dsimp only); (repeat' split) <;> simp; done)
@[simp] theorem injectorOff_ring (c : Coil) (g : Group) (s : State) : (injectorOff c g s).ring = s.ring := by
  first | (unfold injectorOff; simp; done) | (unfold injectorOff; (try dsimp only); (repeat' split) <;> simp; done)
@[simp] theorem injectorOff_seq_machine (c : Coil) (g : Group) (s : State) : (injectorOff c g s).seq.machine = s.seq.machine := by
  first | (unfold injectorOff; simp; done) | (unfold injectorOff; (try dsimp only); (repeat' split) <;> simp; done)
@[simp] theorem injectorOff_reg (c : Coil) (g : Group) (s : State) : (injectorOff c g s).reg = s.reg := by
  first | (unfold injectorOff; simp; done) | (unfold injectorOff; (try dsimp only); (repeat' split) <;> simp; done)
@[simp] theorem injectorOff_sup (c : Coil) (g : Group) (s : State) : (injectorOff c g s).sup = s.sup := by
  first | (unfold injectorOff; simp; done) | (unfold injectorOff; (try dsimp only); (repeat' split) <;> simp; done)
@[simp] theorem injectorOff_planner (c : Coil) (g : Group) (s : State) : (injectorOff c g s).planner = s.planner := by
  first | (unfold injectorOff; simp; done) | (unfold injectorOff; (try dsimp only); (repeat' split) <;> simp; done)

/-! ## `setEffective` -/

@[simp] theorem setEffective_fixed (c : Coil) (l : Nat) (s : State) : (setEffective c l s).fixed = s.fixed := by
  rfl
@[simp] theorem setEffective_topo (c : Coil) (l : Nat) (s : State) : (setEffective c l s).topo = s.topo := by
  rfl
@[simp] theorem setEffective_est (c : Coil) (l : Nat) (s : State) : (setEffective c l s).est = s.est := by
  rfl
@[simp] theorem setEffective_drive (c : Coil) (l : Nat) (s : State) : (setEffective c l s).drive = s.drive := by
  rfl
@[simp] theorem setEffective_events (c : Coil) (l : Nat) (s : State) : (setEffective c l s).events = s.events := by
  rfl
@[simp] theorem setEffective_ring (c : Coil) (l : Nat) (s : State) : (setEffective c l s).ring = s.ring := by
  rfl
@[simp] theorem setEffective_seq_machine (c : Coil) (l : Nat) (s : State) : (setEffective c l s).seq.machine = s.seq.machine := by
  rfl
@[simp] theorem setEffective_reg (c : Coil) (l : Nat) (s : State) : (setEffective c l s).reg = s.reg := by
  rfl
@[simp] theorem setEffective_sup (c : Coil) (l : Nat) (s : State) : (setEffective c l s).sup = s.sup := by
  rfl
@[simp] theorem setEffective_planner (c : Coil) (l : Nat) (s : State) : (setEffective c l s).planner = s.planner := by
  rfl

/-! ## `raiseInjector` -/

@[simp] theorem raiseInjector_fixed (c : Coil) (r : Nat) (s : State) : (raiseInjector c r s).fixed = s.fixed := by
  rfl
@[simp] theorem raiseInjector_topo (c : Coil) (r : Nat) (s : State) : (raiseInjector c r s).topo = s.topo := by
  rfl
@[simp] theorem raiseInjector_est (c : Coil) (r : Nat) (s : State) : (raiseInjector c r s).est = s.est := by
  rfl
@[simp] theorem raiseInjector_drive (c : Coil) (r : Nat) (s : State) : (raiseInjector c r s).drive = s.drive := by
  rfl
@[simp] theorem raiseInjector_ring (c : Coil) (r : Nat) (s : State) : (raiseInjector c r s).ring = s.ring := by
  rfl
@[simp] theorem raiseInjector_seq (c : Coil) (r : Nat) (s : State) : (raiseInjector c r s).seq = s.seq := by
  rfl
@[simp] theorem raiseInjector_reg (c : Coil) (r : Nat) (s : State) : (raiseInjector c r s).reg = s.reg := by
  rfl
@[simp] theorem raiseInjector_sup (c : Coil) (r : Nat) (s : State) : (raiseInjector c r s).sup = s.sup := by
  rfl
@[simp] theorem raiseInjector_planner (c : Coil) (r : Nat) (s : State) : (raiseInjector c r s).planner = s.planner := by
  rfl

/-! ## `appendHistory` -/

@[simp] theorem appendHistory_fixed (r : HistoryRecord) (s : State) : (appendHistory r s).fixed = s.fixed := by
  rfl
@[simp] theorem appendHistory_topo (r : HistoryRecord) (s : State) : (appendHistory r s).topo = s.topo := by
  rfl
@[simp] theorem appendHistory_est (r : HistoryRecord) (s : State) : (appendHistory r s).est = s.est := by
  rfl
@[simp] theorem appendHistory_drive (r : HistoryRecord) (s : State) : (appendHistory r s).drive = s.drive := by
  rfl
@[simp] theorem appendHistory_events (r : HistoryRecord) (s : State) : (appendHistory r s).events = s.events := by
  rfl
@[simp] theorem appendHistory_seq (r : HistoryRecord) (s : State) : (appendHistory r s).seq = s.seq := by
  rfl
@[simp] theorem appendHistory_reg (r : HistoryRecord) (s : State) : (appendHistory r s).reg = s.reg := by
  rfl
@[simp] theorem appendHistory_sup (r : HistoryRecord) (s : State) : (appendHistory r s).sup = s.sup := by
  rfl
@[simp] theorem appendHistory_planner (r : HistoryRecord) (s : State) : (appendHistory r s).planner = s.planner := by
  rfl

/-! ## `abortCycle` -/

@[simp] theorem abortCycle_fixed (g : Group) (o : CycleOutcome) (s : State) : (abortCycle g o s).fixed = s.fixed := by
  first | (unfold abortCycle; simp; done) | (unfold abortCycle; (try dsimp only); (repeat' split) <;> simp; done)
@[simp] theorem abortCycle_topo (g : Group) (o : CycleOutcome) (s : State) : (abortCycle g o s).topo = s.topo := by
  first | (unfold abortCycle; simp; done) | (unfold abortCycle; (try dsimp only); (repeat' split) <;> simp; done)
@[simp] theorem abortCycle_drive (g : Group) (o : CycleOutcome) (s : State) : (abortCycle g o s).drive = s.drive := by
  first | (unfold abortCycle; simp; done) | (unfold abortCycle; (try dsimp only); (repeat' split) <;> simp; done)
@[simp] theorem abortCycle_reg (g : Group) (o : CycleOutcome) (s : State) : (abortCycle g o s).reg = s.reg := by
  first | (unfold abortCycle; simp; done) | (unfold abortCycle; (try dsimp only); (repeat' split) <;> simp; done)
@[simp] theorem abortCycle_sup (g : Group) (o : CycleOutcome) (s : State) : (abortCycle g o s).sup = s.sup := by
  first | (unfold abortCycle; simp; done) | (unfold abortCycle; (try dsimp only); (repeat' split) <;> simp; done)
@[simp] theorem abortCycle_planner (g : Group) (o : CycleOutcome) (s : State) : (abortCycle g o s).planner = s.planner := by
  first | (unfold abortCycle; simp; done) | (unfold abortCycle; (try dsimp only); (repeat' split) <;> simp; done)

/-! ## `abortAll` -/

@[simp] theorem abortAll_fixed (o : CycleOutcome) (s : State) : (abortAll o s).fixed = s.fixed := by
  first | (unfold abortAll; simp; done) | (unfold abortAll; (try dsimp only); (repeat' split) <;> simp; done)
@[simp] theorem abortAll_topo (o : CycleOutcome) (s : State) : (abortAll o s).topo = s.topo := by
  first | (unfold abortAll; simp; done) | (unfold abortAll; (try dsimp only); (repeat' split) <;> simp; done)
@[simp] theorem abortAll_drive (o : CycleOutcome) (s : State) : (abortAll o s).drive = s.drive := by
  first | (unfold abortAll; simp; done) | (unfold abortAll; (try dsimp only); (repeat' split) <;> simp; done)
@[simp] theorem abortAll_reg (o : CycleOutcome) (s : State) : (abortAll o s).reg = s.reg := by
  first | (unfold abortAll; simp; done) | (unfold abortAll; (try dsimp only); (repeat' split) <;> simp; done)
@[simp] theorem abortAll_sup (o : CycleOutcome) (s : State) : (abortAll o s).sup = s.sup := by
  first | (unfold abortAll; simp; done) | (unfold abortAll; (try dsimp only); (repeat' split) <;> simp; done)
@[simp] theorem abortAll_planner (o : CycleOutcome) (s : State) : (abortAll o s).planner = s.planner := by
  first | (unfold abortAll; simp; done) | (unfold abortAll; (try dsimp only); (repeat' split) <;> simp; done)

/-! ## `moveEndTrigger` -/

@[simp] theorem moveEndTrigger_fixed (c : Coil) (s : State) : (moveEndTrigger c s).fixed = s.fixed := by
  first | (unfold moveEndTrigger; simp; done) | (unfold moveEndTrigger; (try dsimp only); (repeat' split) <;> simp; done)
@[simp] theorem moveEndTrigger_topo (c : Coil) (s : State) : (moveEndTrigger c s).topo = s.topo := by
  first | (unfold moveEndTrigger; simp; done) | (unfold moveEndTrigger; (try dsimp only); (repeat' split) <;> simp; done)
@[simp] theorem moveEndTrigger_est (c : Coil) (s : State) : (moveEndTrigger c s).est = s.est := by
  first | (unfold moveEndTrigger; simp; done) | (unfold moveEndTrigger; (try dsimp only); (repeat' split) <;> simp; done)
@[simp] theorem moveEndTrigger_drive (c : Coil) (s : State) : (moveEndTrigger c s).drive = s.drive := by
  first | (unfold moveEndTrigger; simp; done) | (unfold moveEndTrigger; (try dsimp only); (repeat' split) <;> simp; done)
@[simp] theorem moveEndTrigger_events (c : Coil) (s : State) : (moveEndTrigger c s).events = s.events := by
  first | (unfold moveEndTrigger; simp; done) | (unfold moveEndTrigger; (try dsimp only); (repeat' split) <;> simp; done)
@[simp] theorem moveEndTrigger_ring (c : Coil) (s : State) : (moveEndTrigger c s).ring = s.ring := by
  first | (unfold moveEndTrigger; simp; done) | (unfold moveEndTrigger; (try dsimp only); (repeat' split) <;> simp; done)
@[simp] theorem moveEndTrigger_seq_injector (c : Coil) (s : State) : (moveEndTrigger c s).seq.injector = s.seq.injector := by
  first | (unfold moveEndTrigger; simp; done) | (unfold moveEndTrigger; (try dsimp only); (repeat' split) <;> simp; done)
@[simp] theorem moveEndTrigger_reg (c : Coil) (s : State) : (moveEndTrigger c s).reg = s.reg := by
  first | (unfold moveEndTrigger; simp; done) | (unfold moveEndTrigger; (try dsimp only); (repeat' split) <;> simp; done)
@[simp] theorem moveEndTrigger_sup (c : Coil) (s : State) : (moveEndTrigger c s).sup = s.sup := by
  first | (unfold moveEndTrigger; simp; done) | (unfold moveEndTrigger; (try dsimp only); (repeat' split) <;> simp; done)
@[simp] theorem moveEndTrigger_planner (c : Coil) (s : State) : (moveEndTrigger c s).planner = s.planner := by
  first | (unfold moveEndTrigger; simp; done) | (unfold moveEndTrigger; (try dsimp only); (repeat' split) <;> simp; done)

/-! ## `finishMove` -/

@[simp] theorem finishMove_fixed (c : Coil) (r : MoveOutcome) (t : Target) (e : Bool) (s : State) : (finishMove c r t e s).fixed = s.fixed := by
  first | (unfold finishMove; simp; done) | (unfold finishMove; (try dsimp only); (repeat' split) <;> simp; done)
@[simp] theorem finishMove_topo (c : Coil) (r : MoveOutcome) (t : Target) (e : Bool) (s : State) : (finishMove c r t e s).topo = s.topo := by
  first | (unfold finishMove; simp; done) | (unfold finishMove; (try dsimp only); (repeat' split) <;> simp; done)
@[simp] theorem finishMove_est (c : Coil) (r : MoveOutcome) (t : Target) (e : Bool) (s : State) : (finishMove c r t e s).est = s.est := by
  first | (unfold finishMove; simp; done) | (unfold finishMove; (try dsimp only); (repeat' split) <;> simp; done)
@[simp] theorem finishMove_ring (c : Coil) (r : MoveOutcome) (t : Target) (e : Bool) (s : State) : (finishMove c r t e s).ring = s.ring := by
  first | (unfold finishMove; simp; done) | (unfold finishMove; (try dsimp only); (repeat' split) <;> simp; done)
@[simp] theorem finishMove_seq_injector (c : Coil) (r : MoveOutcome) (t : Target) (e : Bool) (s : State) : (finishMove c r t e s).seq.injector = s.seq.injector := by
  first | (unfold finishMove; simp; done) | (unfold finishMove; (try dsimp only); (repeat' split) <;> simp; done)
@[simp] theorem finishMove_reg (c : Coil) (r : MoveOutcome) (t : Target) (e : Bool) (s : State) : (finishMove c r t e s).reg = s.reg := by
  first | (unfold finishMove; simp; done) | (unfold finishMove; (try dsimp only); (repeat' split) <;> simp; done)
@[simp] theorem finishMove_sup (c : Coil) (r : MoveOutcome) (t : Target) (e : Bool) (s : State) : (finishMove c r t e s).sup = s.sup := by
  first | (unfold finishMove; simp; done) | (unfold finishMove; (try dsimp only); (repeat' split) <;> simp; done)
@[simp] theorem finishMove_planner (c : Coil) (r : MoveOutcome) (t : Target) (e : Bool) (s : State) : (finishMove c r t e s).planner = s.planner := by
  first | (unfold finishMove; simp; done) | (unfold finishMove; (try dsimp only); (repeat' split) <;> simp; done)

/-! ## `endCoast` -/

@[simp] theorem endCoast_fixed (c : Coil) (s : State) : (endCoast c s).fixed = s.fixed := by
  first | (unfold endCoast; simp; done) | (unfold endCoast; (try dsimp only); (repeat' split) <;> simp; done)
@[simp] theorem endCoast_topo (c : Coil) (s : State) : (endCoast c s).topo = s.topo := by
  first | (unfold endCoast; simp; done) | (unfold endCoast; (try dsimp only); (repeat' split) <;> simp; done)
@[simp] theorem endCoast_est (c : Coil) (s : State) : (endCoast c s).est = s.est := by
  first | (unfold endCoast; simp; done) | (unfold endCoast; (try dsimp only); (repeat' split) <;> simp; done)
@[simp] theorem endCoast_ring (c : Coil) (s : State) : (endCoast c s).ring = s.ring := by
  first | (unfold endCoast; simp; done) | (unfold endCoast; (try dsimp only); (repeat' split) <;> simp; done)
@[simp] theorem endCoast_seq_injector (c : Coil) (s : State) : (endCoast c s).seq.injector = s.seq.injector := by
  first | (unfold endCoast; simp; done) | (unfold endCoast; (try dsimp only); (repeat' split) <;> simp; done)
@[simp] theorem endCoast_reg (c : Coil) (s : State) : (endCoast c s).reg = s.reg := by
  first | (unfold endCoast; simp; done) | (unfold endCoast; (try dsimp only); (repeat' split) <;> simp; done)
@[simp] theorem endCoast_sup (c : Coil) (s : State) : (endCoast c s).sup = s.sup := by
  first | (unfold endCoast; simp; done) | (unfold endCoast; (try dsimp only); (repeat' split) <;> simp; done)
@[simp] theorem endCoast_planner (c : Coil) (s : State) : (endCoast c s).planner = s.planner := by
  first | (unfold endCoast; simp; done) | (unfold endCoast; (try dsimp only); (repeat' split) <;> simp; done)

/-! ## `enterStopping` -/

@[simp] theorem enterStopping_fixed (c : Coil) (r : StopReason) (s : State) : (enterStopping c r s).fixed = s.fixed := by
  first | (unfold enterStopping; simp; done) | (unfold enterStopping; (try dsimp only); (repeat' split) <;> simp; done)
@[simp] theorem enterStopping_topo (c : Coil) (r : StopReason) (s : State) : (enterStopping c r s).topo = s.topo := by
  first | (unfold enterStopping; simp; done) | (unfold enterStopping; (try dsimp only); (repeat' split) <;> simp; done)
@[simp] theorem enterStopping_est (c : Coil) (r : StopReason) (s : State) : (enterStopping c r s).est = s.est := by
  first | (unfold enterStopping; simp; done) | (unfold enterStopping; (try dsimp only); (repeat' split) <;> simp; done)
@[simp] theorem enterStopping_ring (c : Coil) (r : StopReason) (s : State) : (enterStopping c r s).ring = s.ring := by
  first | (unfold enterStopping; simp; done) | (unfold enterStopping; (try dsimp only); (repeat' split) <;> simp; done)
@[simp] theorem enterStopping_seq_injector (c : Coil) (r : StopReason) (s : State) : (enterStopping c r s).seq.injector = s.seq.injector := by
  first | (unfold enterStopping; simp; done) | (unfold enterStopping; (try dsimp only); (repeat' split) <;> simp; done)
@[simp] theorem enterStopping_reg (c : Coil) (r : StopReason) (s : State) : (enterStopping c r s).reg = s.reg := by
  first | (unfold enterStopping; simp; done) | (unfold enterStopping; (try dsimp only); (repeat' split) <;> simp; done)
@[simp] theorem enterStopping_sup (c : Coil) (r : StopReason) (s : State) : (enterStopping c r s).sup = s.sup := by
  first | (unfold enterStopping; simp; done) | (unfold enterStopping; (try dsimp only); (repeat' split) <;> simp; done)
@[simp] theorem enterStopping_planner (c : Coil) (r : StopReason) (s : State) : (enterStopping c r s).planner = s.planner := by
  first | (unfold enterStopping; simp; done) | (unfold enterStopping; (try dsimp only); (repeat' split) <;> simp; done)

/-! ## `stopIfRunning` -/

@[simp] theorem stopIfRunning_fixed (c : Coil) (r : StopReason) (s : State) : (stopIfRunning c r s).fixed = s.fixed := by
  first | (unfold stopIfRunning; simp; done) | (unfold stopIfRunning; (try dsimp only); (repeat' split) <;> simp; done)
@[simp] theorem stopIfRunning_topo (c : Coil) (r : StopReason) (s : State) : (stopIfRunning c r s).topo = s.topo := by
  first | (unfold stopIfRunning; simp; done) | (unfold stopIfRunning; (try dsimp only); (repeat' split) <;> simp; done)
@[simp] theorem stopIfRunning_est (c : Coil) (r : StopReason) (s : State) : (stopIfRunning c r s).est = s.est := by
  first | (unfold stopIfRunning; simp; done) | (unfold stopIfRunning; (try dsimp only); (repeat' split) <;> simp; done)
@[simp] theorem stopIfRunning_ring (c : Coil) (r : StopReason) (s : State) : (stopIfRunning c r s).ring = s.ring := by
  first | (unfold stopIfRunning; simp; done) | (unfold stopIfRunning; (try dsimp only); (repeat' split) <;> simp; done)
@[simp] theorem stopIfRunning_seq_injector (c : Coil) (r : StopReason) (s : State) : (stopIfRunning c r s).seq.injector = s.seq.injector := by
  first | (unfold stopIfRunning; simp; done) | (unfold stopIfRunning; (try dsimp only); (repeat' split) <;> simp; done)
@[simp] theorem stopIfRunning_reg (c : Coil) (r : StopReason) (s : State) : (stopIfRunning c r s).reg = s.reg := by
  first | (unfold stopIfRunning; simp; done) | (unfold stopIfRunning; (try dsimp only); (repeat' split) <;> simp; done)
@[simp] theorem stopIfRunning_sup (c : Coil) (r : StopReason) (s : State) : (stopIfRunning c r s).sup = s.sup := by
  first | (unfold stopIfRunning; simp; done) | (unfold stopIfRunning; (try dsimp only); (repeat' split) <;> simp; done)
@[simp] theorem stopIfRunning_planner (c : Coil) (r : StopReason) (s : State) : (stopIfRunning c r s).planner = s.planner := by
  first | (unfold stopIfRunning; simp; done) | (unfold stopIfRunning; (try dsimp only); (repeat' split) <;> simp; done)

/-! ## `testStop` -/

@[simp] theorem testStop_fixed (c : Coil) (s : State) : (testStop c s).fixed = s.fixed := by
  first | (unfold testStop; simp; done) | (unfold testStop; (try dsimp only); (repeat' split) <;> simp; done)
@[simp] theorem testStop_topo (c : Coil) (s : State) : (testStop c s).topo = s.topo := by
  first | (unfold testStop; simp; done) | (unfold testStop; (try dsimp only); (repeat' split) <;> simp; done)
@[simp] theorem testStop_est (c : Coil) (s : State) : (testStop c s).est = s.est := by
  first | (unfold testStop; simp; done) | (unfold testStop; (try dsimp only); (repeat' split) <;> simp; done)
@[simp] theorem testStop_ring (c : Coil) (s : State) : (testStop c s).ring = s.ring := by
  first | (unfold testStop; simp; done) | (unfold testStop; (try dsimp only); (repeat' split) <;> simp; done)
@[simp] theorem testStop_seq_injector (c : Coil) (s : State) : (testStop c s).seq.injector = s.seq.injector := by
  first | (unfold testStop; simp; done) | (unfold testStop; (try dsimp only); (repeat' split) <;> simp; done)
@[simp] theorem testStop_reg (c : Coil) (s : State) : (testStop c s).reg = s.reg := by
  first | (unfold testStop; simp; done) | (unfold testStop; (try dsimp only); (repeat' split) <;> simp; done)
@[simp] theorem testStop_sup (c : Coil) (s : State) : (testStop c s).sup = s.sup := by
  first | (unfold testStop; simp; done) | (unfold testStop; (try dsimp only); (repeat' split) <;> simp; done)
@[simp] theorem testStop_planner (c : Coil) (s : State) : (testStop c s).planner = s.planner := by
  first | (unfold testStop; simp; done) | (unfold testStop; (try dsimp only); (repeat' split) <;> simp; done)

/-! ## `beginStep` -/

@[simp] theorem beginStep_fixed (c : Coil) (s : State) : (beginStep c s).fixed = s.fixed := by
  rfl
@[simp] theorem beginStep_topo (c : Coil) (s : State) : (beginStep c s).topo = s.topo := by
  rfl
@[simp] theorem beginStep_est (c : Coil) (s : State) : (beginStep c s).est = s.est := by
  rfl
@[simp] theorem beginStep_events (c : Coil) (s : State) : (beginStep c s).events = s.events := by
  rfl
@[simp] theorem beginStep_ring (c : Coil) (s : State) : (beginStep c s).ring = s.ring := by
  rfl
@[simp] theorem beginStep_seq (c : Coil) (s : State) : (beginStep c s).seq = s.seq := by
  rfl
@[simp] theorem beginStep_reg (c : Coil) (s : State) : (beginStep c s).reg = s.reg := by
  rfl
@[simp] theorem beginStep_sup (c : Coil) (s : State) : (beginStep c s).sup = s.sup := by
  rfl
@[simp] theorem beginStep_planner (c : Coil) (s : State) : (beginStep c s).planner = s.planner := by
  rfl

/-! ## `beginDelay` -/

@[simp] theorem beginDelay_fixed (c : Coil) (s : State) : (beginDelay c s).fixed = s.fixed := by
  rfl
@[simp] theorem beginDelay_topo (c : Coil) (s : State) : (beginDelay c s).topo = s.topo := by
  rfl
@[simp] theorem beginDelay_est (c : Coil) (s : State) : (beginDelay c s).est = s.est := by
  rfl
@[simp] theorem beginDelay_events (c : Coil) (s : State) : (beginDelay c s).events = s.events := by
  rfl
@[simp] theorem beginDelay_ring (c : Coil) (s : State) : (beginDelay c s).ring = s.ring := by
  rfl
@[simp] theorem beginDelay_seq (c : Coil) (s : State) : (beginDelay c s).seq = s.seq := by
  rfl
@[simp] theorem beginDelay_reg (c : Coil) (s : State) : (beginDelay c s).reg = s.reg := by
  rfl
@[simp] theorem beginDelay_sup (c : Coil) (s : State) : (beginDelay c s).sup = s.sup := by
  rfl
@[simp] theorem beginDelay_planner (c : Coil) (s : State) : (beginDelay c s).planner = s.planner := by
  rfl

/-! ## `beginRun` -/

@[simp] theorem beginRun_fixed (c : Coil) (up : Bool) (t : Target) (s : State) : (beginRun c up t s).fixed = s.fixed := by
  first | (unfold beginRun; simp; done) | (unfold beginRun; (try dsimp only); (repeat' split) <;> simp; done)
@[simp] theorem beginRun_topo (c : Coil) (up : Bool) (t : Target) (s : State) : (beginRun c up t s).topo = s.topo := by
  first | (unfold beginRun; simp; done) | (unfold beginRun; (try dsimp only); (repeat' split) <;> simp; done)
@[simp] theorem beginRun_est (c : Coil) (up : Bool) (t : Target) (s : State) : (beginRun c up t s).est = s.est := by
  first | (unfold beginRun; simp; done) | (unfold beginRun; (try dsimp only); (repeat' split) <;> simp; done)
@[simp] theorem beginRun_events (c : Coil) (up : Bool) (t : Target) (s : State) : (beginRun c up t s).events = s.events := by
  first | (unfold beginRun; simp; done) | (unfold beginRun; (try dsimp only); (repeat' split) <;> simp; done)
@[simp] theorem beginRun_ring (c : Coil) (up : Bool) (t : Target) (s : State) : (beginRun c up t s).ring = s.ring := by
  first | (unfold beginRun; simp; done) | (unfold beginRun; (try dsimp only); (repeat' split) <;> simp; done)
@[simp] theorem beginRun_seq (c : Coil) (up : Bool) (t : Target) (s : State) : (beginRun c up t s).seq = s.seq := by
  first | (unfold beginRun; simp; done) | (unfold beginRun; (try dsimp only); (repeat' split) <;> simp; done)
@[simp] theorem beginRun_reg (c : Coil) (up : Bool) (t : Target) (s : State) : (beginRun c up t s).reg = s.reg := by
  first | (unfold beginRun; simp; done) | (unfold beginRun; (try dsimp only); (repeat' split) <;> simp; done)
@[simp] theorem beginRun_sup (c : Coil) (up : Bool) (t : Target) (s : State) : (beginRun c up t s).sup = s.sup := by
  first | (unfold beginRun; simp; done) | (unfold beginRun; (try dsimp only); (repeat' split) <;> simp; done)
@[simp] theorem beginRun_planner (c : Coil) (up : Bool) (t : Target) (s : State) : (beginRun c up t s).planner = s.planner := by
  first | (unfold beginRun; simp; done) | (unfold beginRun; (try dsimp only); (repeat' split) <;> simp; done)

/-! ## `startMove` -/

@[simp] theorem startMove_fixed (c : Coil) (t : Target) (s : State) : (startMove c t s).fixed = s.fixed := by
  first | (unfold startMove; simp; done) | (unfold startMove; (try dsimp only); (repeat' split) <;> simp; done)
@[simp] theorem startMove_topo (c : Coil) (t : Target) (s : State) : (startMove c t s).topo = s.topo := by
  first | (unfold startMove; simp; done) | (unfold startMove; (try dsimp only); (repeat' split) <;> simp; done)
@[simp] theorem startMove_reg (c : Coil) (t : Target) (s : State) : (startMove c t s).reg = s.reg := by
  first | (unfold startMove; simp; done) | (unfold startMove; (try dsimp only); (repeat' split) <;> simp; done)
@[simp] theorem startMove_sup (c : Coil) (t : Target) (s : State) : (startMove c t s).sup = s.sup := by
  first | (unfold startMove; simp; done) | (unfold startMove; (try dsimp only); (repeat' split) <;> simp; done)
@[simp] theorem startMove_planner (c : Coil) (t : Target) (s : State) : (startMove c t s).planner = s.planner := by
  first | (unfold startMove; simp; done) | (unfold startMove; (try dsimp only); (repeat' split) <;> simp; done)
@[simp] theorem startMove_auto_est (c : Coil) (p : Nat) (s : State) : (startMove c ⟨p, .auto⟩ s).est = s.est := by
  unfold startMove; (try dsimp only); (repeat' split) <;> simp_all
@[simp] theorem startMove_auto_ring (c : Coil) (p : Nat) (s : State) : (startMove c ⟨p, .auto⟩ s).ring = s.ring := by
  unfold startMove; (try dsimp only); (repeat' split) <;> simp_all
@[simp] theorem startMove_auto_seq_injector (c : Coil) (p : Nat) (s : State) : (startMove c ⟨p, .auto⟩ s).seq.injector = s.seq.injector := by
  unfold startMove; (try dsimp only); (repeat' split) <;> simp_all

/-! ## `takeTarget` -/

@[simp] theorem takeTarget_fixed (c : Coil) (t : Target) (s : State) : (takeTarget c t s).fixed = s.fixed := by
  unfold takeTarget; (try dsimp only); (repeat' split) <;> simp
@[simp] theorem takeTarget_topo (c : Coil) (t : Target) (s : State) : (takeTarget c t s).topo = s.topo := by
  unfold takeTarget; (try dsimp only); (repeat' split) <;> simp
@[simp] theorem takeTarget_reg (c : Coil) (t : Target) (s : State) : (takeTarget c t s).reg = s.reg := by
  unfold takeTarget; (try dsimp only); (repeat' split) <;> simp
@[simp] theorem takeTarget_sup (c : Coil) (t : Target) (s : State) : (takeTarget c t s).sup = s.sup := by
  unfold takeTarget; (try dsimp only); (repeat' split) <;> simp
@[simp] theorem takeTarget_planner (c : Coil) (t : Target) (s : State) : (takeTarget c t s).planner = s.planner := by
  unfold takeTarget; (try dsimp only); (repeat' split) <;> simp
@[simp] theorem takeTarget_auto_est (c : Coil) (p : Nat) (s : State) : (takeTarget c ⟨p, .auto⟩ s).est = s.est := by
  unfold takeTarget; (try dsimp only); (repeat' split) <;> simp
@[simp] theorem takeTarget_auto_ring (c : Coil) (p : Nat) (s : State) : (takeTarget c ⟨p, .auto⟩ s).ring = s.ring := by
  unfold takeTarget; (try dsimp only); (repeat' split) <;> simp
@[simp] theorem takeTarget_auto_seq_injector (c : Coil) (p : Nat) (s : State) : (takeTarget c ⟨p, .auto⟩ s).seq.injector = s.seq.injector := by
  unfold takeTarget; (try dsimp only); (repeat' split) <;> simp

/-! ## `newTarget` -/

@[simp] theorem newTarget_fixed (c : Coil) (t : Target) (s : State) : (newTarget c t s).fixed = s.fixed := by
  first | (unfold newTarget; simp; done) | (unfold newTarget; (try dsimp only); (repeat' split) <;> simp; done)
@[simp] theorem newTarget_topo (c : Coil) (t : Target) (s : State) : (newTarget c t s).topo = s.topo := by
  first | (unfold newTarget; simp; done) | (unfold newTarget; (try dsimp only); (repeat' split) <;> simp; done)
@[simp] theorem newTarget_auto_est (c : Coil) (p : Nat) (s : State) : (newTarget c ⟨p, .auto⟩ s).est = s.est := by
  first | (unfold newTarget; simp; done) | (unfold newTarget; (try dsimp only); (repeat' split) <;> simp; done)
@[simp] theorem newTarget_auto_ring (c : Coil) (p : Nat) (s : State) : (newTarget c ⟨p, .auto⟩ s).ring = s.ring := by
  first | (unfold newTarget; simp; done) | (unfold newTarget; (try dsimp only); (repeat' split) <;> simp; done)
@[simp] theorem newTarget_auto_seq_injector (c : Coil) (p : Nat) (s : State) : (newTarget c ⟨p, .auto⟩ s).seq.injector = s.seq.injector := by
  first | (unfold newTarget; simp; done) | (unfold newTarget; (try dsimp only); (repeat' split) <;> simp; done)
@[simp] theorem newTarget_reg (c : Coil) (t : Target) (s : State) : (newTarget c t s).reg = s.reg := by
  first | (unfold newTarget; simp; done) | (unfold newTarget; (try dsimp only); (repeat' split) <;> simp; done)
@[simp] theorem newTarget_sup (c : Coil) (t : Target) (s : State) : (newTarget c t s).sup = s.sup := by
  first | (unfold newTarget; simp; done) | (unfold newTarget; (try dsimp only); (repeat' split) <;> simp; done)
@[simp] theorem newTarget_planner (c : Coil) (t : Target) (s : State) : (newTarget c t s).planner = s.planner := by
  first | (unfold newTarget; simp; done) | (unfold newTarget; (try dsimp only); (repeat' split) <;> simp; done)

/-! ## `withdraw` -/

@[simp] theorem withdraw_fixed (c : Coil) (s : State) : (withdraw c s).fixed = s.fixed := by
  first | (unfold withdraw; simp; done) | (unfold withdraw; (try dsimp only); (repeat' split) <;> simp; done)
@[simp] theorem withdraw_topo (c : Coil) (s : State) : (withdraw c s).topo = s.topo := by
  first | (unfold withdraw; simp; done) | (unfold withdraw; (try dsimp only); (repeat' split) <;> simp; done)
@[simp] theorem withdraw_est (c : Coil) (s : State) : (withdraw c s).est = s.est := by
  first | (unfold withdraw; simp; done) | (unfold withdraw; (try dsimp only); (repeat' split) <;> simp; done)
@[simp] theorem withdraw_events (c : Coil) (s : State) : (withdraw c s).events = s.events := by
  first | (unfold withdraw; simp; done) | (unfold withdraw; (try dsimp only); (repeat' split) <;> simp; done)
@[simp] theorem withdraw_ring (c : Coil) (s : State) : (withdraw c s).ring = s.ring := by
  first | (unfold withdraw; simp; done) | (unfold withdraw; (try dsimp only); (repeat' split) <;> simp; done)
@[simp] theorem withdraw_seq (c : Coil) (s : State) : (withdraw c s).seq = s.seq := by
  first | (unfold withdraw; simp; done) | (unfold withdraw; (try dsimp only); (repeat' split) <;> simp; done)
@[simp] theorem withdraw_reg (c : Coil) (s : State) : (withdraw c s).reg = s.reg := by
  first | (unfold withdraw; simp; done) | (unfold withdraw; (try dsimp only); (repeat' split) <;> simp; done)
@[simp] theorem withdraw_sup (c : Coil) (s : State) : (withdraw c s).sup = s.sup := by
  first | (unfold withdraw; simp; done) | (unfold withdraw; (try dsimp only); (repeat' split) <;> simp; done)
@[simp] theorem withdraw_planner (c : Coil) (s : State) : (withdraw c s).planner = s.planner := by
  first | (unfold withdraw; simp; done) | (unfold withdraw; (try dsimp only); (repeat' split) <;> simp; done)

/-! ## `dropOrigin` -/

@[simp] theorem dropOrigin_fixed (o : Origin) (c : Coil) (s : State) : (dropOrigin o c s).fixed = s.fixed := by
  first | (unfold dropOrigin; simp; done) | (unfold dropOrigin; (try dsimp only); (repeat' split) <;> simp; done)
@[simp] theorem dropOrigin_topo (o : Origin) (c : Coil) (s : State) : (dropOrigin o c s).topo = s.topo := by
  first | (unfold dropOrigin; simp; done) | (unfold dropOrigin; (try dsimp only); (repeat' split) <;> simp; done)
@[simp] theorem dropOrigin_est (o : Origin) (c : Coil) (s : State) : (dropOrigin o c s).est = s.est := by
  first | (unfold dropOrigin; simp; done) | (unfold dropOrigin; (try dsimp only); (repeat' split) <;> simp; done)
@[simp] theorem dropOrigin_ring (o : Origin) (c : Coil) (s : State) : (dropOrigin o c s).ring = s.ring := by
  first | (unfold dropOrigin; simp; done) | (unfold dropOrigin; (try dsimp only); (repeat' split) <;> simp; done)
@[simp] theorem dropOrigin_seq_injector (o : Origin) (c : Coil) (s : State) : (dropOrigin o c s).seq.injector = s.seq.injector := by
  first | (unfold dropOrigin; simp; done) | (unfold dropOrigin; (try dsimp only); (repeat' split) <;> simp; done)
@[simp] theorem dropOrigin_reg (o : Origin) (c : Coil) (s : State) : (dropOrigin o c s).reg = s.reg := by
  first | (unfold dropOrigin; simp; done) | (unfold dropOrigin; (try dsimp only); (repeat' split) <;> simp; done)
@[simp] theorem dropOrigin_sup (o : Origin) (c : Coil) (s : State) : (dropOrigin o c s).sup = s.sup := by
  first | (unfold dropOrigin; simp; done) | (unfold dropOrigin; (try dsimp only); (repeat' split) <;> simp; done)
@[simp] theorem dropOrigin_planner (o : Origin) (c : Coil) (s : State) : (dropOrigin o c s).planner = s.planner := by
  first | (unfold dropOrigin; simp; done) | (unfold dropOrigin; (try dsimp only); (repeat' split) <;> simp; done)

/-! ## `modeChangeDrive` -/

@[simp] theorem modeChangeDrive_fixed (c : Coil) (a b : CoilMode) (s : State) : (modeChangeDrive c a b s).fixed = s.fixed := by
  first | (unfold modeChangeDrive; simp; done) | (unfold modeChangeDrive; (try dsimp only); (repeat' split) <;> simp; done)
@[simp] theorem modeChangeDrive_topo (c : Coil) (a b : CoilMode) (s : State) : (modeChangeDrive c a b s).topo = s.topo := by
  first | (unfold modeChangeDrive; simp; done) | (unfold modeChangeDrive; (try dsimp only); (repeat' split) <;> simp; done)
@[simp] theorem modeChangeDrive_est (c : Coil) (a b : CoilMode) (s : State) : (modeChangeDrive c a b s).est = s.est := by
  first | (unfold modeChangeDrive; simp; done) | (unfold modeChangeDrive; (try dsimp only); (repeat' split) <;> simp; done)
@[simp] theorem modeChangeDrive_ring (c : Coil) (a b : CoilMode) (s : State) : (modeChangeDrive c a b s).ring = s.ring := by
  first | (unfold modeChangeDrive; simp; done) | (unfold modeChangeDrive; (try dsimp only); (repeat' split) <;> simp; done)
@[simp] theorem modeChangeDrive_seq_injector (c : Coil) (a b : CoilMode) (s : State) : (modeChangeDrive c a b s).seq.injector = s.seq.injector := by
  first | (unfold modeChangeDrive; simp; done) | (unfold modeChangeDrive; (try dsimp only); (repeat' split) <;> simp; done)
@[simp] theorem modeChangeDrive_reg (c : Coil) (a b : CoilMode) (s : State) : (modeChangeDrive c a b s).reg = s.reg := by
  first | (unfold modeChangeDrive; simp; done) | (unfold modeChangeDrive; (try dsimp only); (repeat' split) <;> simp; done)
@[simp] theorem modeChangeDrive_sup (c : Coil) (a b : CoilMode) (s : State) : (modeChangeDrive c a b s).sup = s.sup := by
  first | (unfold modeChangeDrive; simp; done) | (unfold modeChangeDrive; (try dsimp only); (repeat' split) <;> simp; done)
@[simp] theorem modeChangeDrive_planner (c : Coil) (a b : CoilMode) (s : State) : (modeChangeDrive c a b s).planner = s.planner := by
  first | (unfold modeChangeDrive; simp; done) | (unfold modeChangeDrive; (try dsimp only); (repeat' split) <;> simp; done)

/-! ## `newRange` -/

@[simp] theorem newRange_fixed (c : Coil) (s : State) : (newRange c s).fixed = s.fixed := by
  first | (unfold newRange; simp; done) | (unfold newRange; (try dsimp only); (repeat' split) <;> simp; done)
@[simp] theorem newRange_topo (c : Coil) (s : State) : (newRange c s).topo = s.topo := by
  first | (unfold newRange; simp; done) | (unfold newRange; (try dsimp only); (repeat' split) <;> simp; done)
@[simp] theorem newRange_est (c : Coil) (s : State) : (newRange c s).est = s.est := by
  first | (unfold newRange; simp; done) | (unfold newRange; (try dsimp only); (repeat' split) <;> simp; done)
@[simp] theorem newRange_ring (c : Coil) (s : State) : (newRange c s).ring = s.ring := by
  first | (unfold newRange; simp; done) | (unfold newRange; (try dsimp only); (repeat' split) <;> simp; done)
@[simp] theorem newRange_seq_injector (c : Coil) (s : State) : (newRange c s).seq.injector = s.seq.injector := by
  first | (unfold newRange; simp; done) | (unfold newRange; (try dsimp only); (repeat' split) <;> simp; done)
@[simp] theorem newRange_reg (c : Coil) (s : State) : (newRange c s).reg = s.reg := by
  first | (unfold newRange; simp; done) | (unfold newRange; (try dsimp only); (repeat' split) <;> simp; done)
@[simp] theorem newRange_sup (c : Coil) (s : State) : (newRange c s).sup = s.sup := by
  first | (unfold newRange; simp; done) | (unfold newRange; (try dsimp only); (repeat' split) <;> simp; done)
@[simp] theorem newRange_planner (c : Coil) (s : State) : (newRange c s).planner = s.planner := by
  first | (unfold newRange; simp; done) | (unfold newRange; (try dsimp only); (repeat' split) <;> simp; done)

/-! ## `limitContact` -/

@[simp] theorem limitContact_fixed (c : Coil) (up : Bool) (s : State) : (limitContact c up s).fixed = s.fixed := by
  first | (unfold limitContact; simp; done) | (unfold limitContact; (try dsimp only); (repeat' split) <;> simp; done)
@[simp] theorem limitContact_topo (c : Coil) (up : Bool) (s : State) : (limitContact c up s).topo = s.topo := by
  first | (unfold limitContact; simp; done) | (unfold limitContact; (try dsimp only); (repeat' split) <;> simp; done)
@[simp] theorem limitContact_est (c : Coil) (up : Bool) (s : State) : (limitContact c up s).est = s.est := by
  first | (unfold limitContact; simp; done) | (unfold limitContact; (try dsimp only); (repeat' split) <;> simp; done)
@[simp] theorem limitContact_ring (c : Coil) (up : Bool) (s : State) : (limitContact c up s).ring = s.ring := by
  first | (unfold limitContact; simp; done) | (unfold limitContact; (try dsimp only); (repeat' split) <;> simp; done)
@[simp] theorem limitContact_seq_injector (c : Coil) (up : Bool) (s : State) : (limitContact c up s).seq.injector = s.seq.injector := by
  first | (unfold limitContact; simp; done) | (unfold limitContact; (try dsimp only); (repeat' split) <;> simp; done)
@[simp] theorem limitContact_reg (c : Coil) (up : Bool) (s : State) : (limitContact c up s).reg = s.reg := by
  first | (unfold limitContact; simp; done) | (unfold limitContact; (try dsimp only); (repeat' split) <;> simp; done)
@[simp] theorem limitContact_sup (c : Coil) (up : Bool) (s : State) : (limitContact c up s).sup = s.sup := by
  first | (unfold limitContact; simp; done) | (unfold limitContact; (try dsimp only); (repeat' split) <;> simp; done)
@[simp] theorem limitContact_planner (c : Coil) (up : Bool) (s : State) : (limitContact c up s).planner = s.planner := by
  first | (unfold limitContact; simp; done) | (unfold limitContact; (try dsimp only); (repeat' split) <;> simp; done)

/-! ## `raiseRangeLimit` -/

@[simp] theorem raiseRangeLimit_fixed (g : Group) (o : RangeLimit) (r : PlanRecord) (s : State) : (raiseRangeLimit g o r s).fixed = s.fixed := by
  first | (unfold raiseRangeLimit; simp; done) | (unfold raiseRangeLimit; (try dsimp only); (repeat' split) <;> simp; done)
@[simp] theorem raiseRangeLimit_topo (g : Group) (o : RangeLimit) (r : PlanRecord) (s : State) : (raiseRangeLimit g o r s).topo = s.topo := by
  first | (unfold raiseRangeLimit; simp; done) | (unfold raiseRangeLimit; (try dsimp only); (repeat' split) <;> simp; done)
@[simp] theorem raiseRangeLimit_est (g : Group) (o : RangeLimit) (r : PlanRecord) (s : State) : (raiseRangeLimit g o r s).est = s.est := by
  first | (unfold raiseRangeLimit; simp; done) | (unfold raiseRangeLimit; (try dsimp only); (repeat' split) <;> simp; done)
@[simp] theorem raiseRangeLimit_drive (g : Group) (o : RangeLimit) (r : PlanRecord) (s : State) : (raiseRangeLimit g o r s).drive = s.drive := by
  first | (unfold raiseRangeLimit; simp; done) | (unfold raiseRangeLimit; (try dsimp only); (repeat' split) <;> simp; done)
@[simp] theorem raiseRangeLimit_ring (g : Group) (o : RangeLimit) (r : PlanRecord) (s : State) : (raiseRangeLimit g o r s).ring = s.ring := by
  first | (unfold raiseRangeLimit; simp; done) | (unfold raiseRangeLimit; (try dsimp only); (repeat' split) <;> simp; done)
@[simp] theorem raiseRangeLimit_seq (g : Group) (o : RangeLimit) (r : PlanRecord) (s : State) : (raiseRangeLimit g o r s).seq = s.seq := by
  first | (unfold raiseRangeLimit; simp; done) | (unfold raiseRangeLimit; (try dsimp only); (repeat' split) <;> simp; done)
@[simp] theorem raiseRangeLimit_reg (g : Group) (o : RangeLimit) (r : PlanRecord) (s : State) : (raiseRangeLimit g o r s).reg = s.reg := by
  first | (unfold raiseRangeLimit; simp; done) | (unfold raiseRangeLimit; (try dsimp only); (repeat' split) <;> simp; done)
@[simp] theorem raiseRangeLimit_sup (g : Group) (o : RangeLimit) (r : PlanRecord) (s : State) : (raiseRangeLimit g o r s).sup = s.sup := by
  first | (unfold raiseRangeLimit; simp; done) | (unfold raiseRangeLimit; (try dsimp only); (repeat' split) <;> simp; done)
@[simp] theorem raiseRangeLimit_planner (g : Group) (o : RangeLimit) (r : PlanRecord) (s : State) : (raiseRangeLimit g o r s).planner = s.planner := by
  first | (unfold raiseRangeLimit; simp; done) | (unfold raiseRangeLimit; (try dsimp only); (repeat' split) <;> simp; done)

/-! ## `handPlan` -/

@[simp] theorem handPlan_fixed (g : Group) (r : PlanRecord) (s : State) : (handPlan g r s).fixed = s.fixed := by
  unfold handPlan; split <;> refine forEach_keeps (fun s => s.fixed) _ (fun x s => ?_) _ _ <;> (try dsimp only) <;> (repeat' split) <;> simp
@[simp] theorem handPlan_topo (g : Group) (r : PlanRecord) (s : State) : (handPlan g r s).topo = s.topo := by
  unfold handPlan; split <;> refine forEach_keeps (fun s => s.topo) _ (fun x s => ?_) _ _ <;> (try dsimp only) <;> (repeat' split) <;> simp
@[simp] theorem handPlan_est (g : Group) (r : PlanRecord) (s : State) : (handPlan g r s).est = s.est := by
  unfold handPlan; split <;> refine forEach_keeps (fun s => s.est) _ (fun x s => ?_) _ _ <;> (try dsimp only) <;> (repeat' split) <;> simp
@[simp] theorem handPlan_ring (g : Group) (r : PlanRecord) (s : State) : (handPlan g r s).ring = s.ring := by
  unfold handPlan; split <;> refine forEach_keeps (fun s => s.ring) _ (fun x s => ?_) _ _ <;> (try dsimp only) <;> (repeat' split) <;> simp
@[simp] theorem handPlan_seq_injector (g : Group) (r : PlanRecord) (s : State) : (handPlan g r s).seq.injector = s.seq.injector := by
  unfold handPlan; split <;> refine forEach_keeps (fun s => s.seq.injector) _ (fun x s => ?_) _ _ <;> (try dsimp only) <;> (repeat' split) <;> simp
@[simp] theorem handPlan_reg (g : Group) (r : PlanRecord) (s : State) : (handPlan g r s).reg = s.reg := by
  unfold handPlan; split <;> refine forEach_keeps (fun s => s.reg) _ (fun x s => ?_) _ _ <;> (try dsimp only) <;> (repeat' split) <;> simp
@[simp] theorem handPlan_sup (g : Group) (r : PlanRecord) (s : State) : (handPlan g r s).sup = s.sup := by
  unfold handPlan; split <;> refine forEach_keeps (fun s => s.sup) _ (fun x s => ?_) _ _ <;> (try dsimp only) <;> (repeat' split) <;> simp
@[simp] theorem handPlan_planner (g : Group) (r : PlanRecord) (s : State) : (handPlan g r s).planner = s.planner := by
  unfold handPlan; split <;> refine forEach_keeps (fun s => s.planner) _ (fun x s => ?_) _ _ <;> (try dsimp only) <;> (repeat' split) <;> simp

/-! ## `planGroup` -/

@[simp] theorem planGroup_fixed (g : Group) (s : State) : (planGroup g s).fixed = s.fixed := by
  first | (unfold planGroup; simp; done) | (unfold planGroup; (try dsimp only); (repeat' split) <;> simp; done)
@[simp] theorem planGroup_topo (g : Group) (s : State) : (planGroup g s).topo = s.topo := by
  first | (unfold planGroup; simp; done) | (unfold planGroup; (try dsimp only); (repeat' split) <;> simp; done)
@[simp] theorem planGroup_est (g : Group) (s : State) : (planGroup g s).est = s.est := by
  first | (unfold planGroup; simp; done) | (unfold planGroup; (try dsimp only); (repeat' split) <;> simp; done)
@[simp] theorem planGroup_ring (g : Group) (s : State) : (planGroup g s).ring = s.ring := by
  first | (unfold planGroup; simp; done) | (unfold planGroup; (try dsimp only); (repeat' split) <;> simp; done)
@[simp] theorem planGroup_seq_injector (g : Group) (s : State) : (planGroup g s).seq.injector = s.seq.injector := by
  first | (unfold planGroup; simp; done) | (unfold planGroup; (try dsimp only); (repeat' split) <;> simp; done)
@[simp] theorem planGroup_reg (g : Group) (s : State) : (planGroup g s).reg = s.reg := by
  first | (unfold planGroup; simp; done) | (unfold planGroup; (try dsimp only); (repeat' split) <;> simp; done)
@[simp] theorem planGroup_sup (g : Group) (s : State) : (planGroup g s).sup = s.sup := by
  first | (unfold planGroup; simp; done) | (unfold planGroup; (try dsimp only); (repeat' split) <;> simp; done)

/-! ## `retirePlan` -/

@[simp] theorem retirePlan_fixed (g : Group) (s : State) : (retirePlan g s).fixed = s.fixed := by
  first | (unfold retirePlan; simp; done) | (unfold retirePlan; (try dsimp only); (repeat' split) <;> simp; done)
@[simp] theorem retirePlan_topo (g : Group) (s : State) : (retirePlan g s).topo = s.topo := by
  first | (unfold retirePlan; simp; done) | (unfold retirePlan; (try dsimp only); (repeat' split) <;> simp; done)
@[simp] theorem retirePlan_est (g : Group) (s : State) : (retirePlan g s).est = s.est := by
  first | (unfold retirePlan; simp; done) | (unfold retirePlan; (try dsimp only); (repeat' split) <;> simp; done)
@[simp] theorem retirePlan_drive (g : Group) (s : State) : (retirePlan g s).drive = s.drive := by
  first | (unfold retirePlan; simp; done) | (unfold retirePlan; (try dsimp only); (repeat' split) <;> simp; done)
@[simp] theorem retirePlan_ring (g : Group) (s : State) : (retirePlan g s).ring = s.ring := by
  first | (unfold retirePlan; simp; done) | (unfold retirePlan; (try dsimp only); (repeat' split) <;> simp; done)
@[simp] theorem retirePlan_seq (g : Group) (s : State) : (retirePlan g s).seq = s.seq := by
  first | (unfold retirePlan; simp; done) | (unfold retirePlan; (try dsimp only); (repeat' split) <;> simp; done)
@[simp] theorem retirePlan_reg (g : Group) (s : State) : (retirePlan g s).reg = s.reg := by
  first | (unfold retirePlan; simp; done) | (unfold retirePlan; (try dsimp only); (repeat' split) <;> simp; done)
@[simp] theorem retirePlan_sup (g : Group) (s : State) : (retirePlan g s).sup = s.sup := by
  first | (unfold retirePlan; simp; done) | (unfold retirePlan; (try dsimp only); (repeat' split) <;> simp; done)

/-! ## `raiseEstimate` -/

@[simp] theorem raiseEstimate_fixed (g : Group) (r : EstReason) (s : State) : (raiseEstimate g r s).fixed = s.fixed := by
  first | (unfold raiseEstimate; simp; done) | (unfold raiseEstimate; (try dsimp only); (repeat' split) <;> simp; done)
@[simp] theorem raiseEstimate_topo (g : Group) (r : EstReason) (s : State) : (raiseEstimate g r s).topo = s.topo := by
  first | (unfold raiseEstimate; simp; done) | (unfold raiseEstimate; (try dsimp only); (repeat' split) <;> simp; done)
@[simp] theorem raiseEstimate_est (g : Group) (r : EstReason) (s : State) : (raiseEstimate g r s).est = s.est := by
  first | (unfold raiseEstimate; simp; done) | (unfold raiseEstimate; (try dsimp only); (repeat' split) <;> simp; done)
@[simp] theorem raiseEstimate_drive (g : Group) (r : EstReason) (s : State) : (raiseEstimate g r s).drive = s.drive := by
  first | (unfold raiseEstimate; simp; done) | (unfold raiseEstimate; (try dsimp only); (repeat' split) <;> simp; done)
@[simp] theorem raiseEstimate_ring (g : Group) (r : EstReason) (s : State) : (raiseEstimate g r s).ring = s.ring := by
  first | (unfold raiseEstimate; simp; done) | (unfold raiseEstimate; (try dsimp only); (repeat' split) <;> simp; done)
@[simp] theorem raiseEstimate_seq (g : Group) (r : EstReason) (s : State) : (raiseEstimate g r s).seq = s.seq := by
  first | (unfold raiseEstimate; simp; done) | (unfold raiseEstimate; (try dsimp only); (repeat' split) <;> simp; done)
@[simp] theorem raiseEstimate_reg (g : Group) (r : EstReason) (s : State) : (raiseEstimate g r s).reg = s.reg := by
  first | (unfold raiseEstimate; simp; done) | (unfold raiseEstimate; (try dsimp only); (repeat' split) <;> simp; done)
@[simp] theorem raiseEstimate_sup (g : Group) (r : EstReason) (s : State) : (raiseEstimate g r s).sup = s.sup := by
  first | (unfold raiseEstimate; simp; done) | (unfold raiseEstimate; (try dsimp only); (repeat' split) <;> simp; done)
@[simp] theorem raiseEstimate_planner (g : Group) (r : EstReason) (s : State) : (raiseEstimate g r s).planner = s.planner := by
  first | (unfold raiseEstimate; simp; done) | (unfold raiseEstimate; (try dsimp only); (repeat' split) <;> simp; done)

/-! ## `raiseStale` -/

@[simp] theorem raiseStale_fixed (g : Group) (s : State) : (raiseStale g s).fixed = s.fixed := by
  first | (unfold raiseStale; simp; done) | (unfold raiseStale; (try dsimp only); (repeat' split) <;> simp; done)
@[simp] theorem raiseStale_topo (g : Group) (s : State) : (raiseStale g s).topo = s.topo := by
  first | (unfold raiseStale; simp; done) | (unfold raiseStale; (try dsimp only); (repeat' split) <;> simp; done)
@[simp] theorem raiseStale_est (g : Group) (s : State) : (raiseStale g s).est = s.est := by
  first | (unfold raiseStale; simp; done) | (unfold raiseStale; (try dsimp only); (repeat' split) <;> simp; done)
@[simp] theorem raiseStale_drive (g : Group) (s : State) : (raiseStale g s).drive = s.drive := by
  first | (unfold raiseStale; simp; done) | (unfold raiseStale; (try dsimp only); (repeat' split) <;> simp; done)
@[simp] theorem raiseStale_ring (g : Group) (s : State) : (raiseStale g s).ring = s.ring := by
  first | (unfold raiseStale; simp; done) | (unfold raiseStale; (try dsimp only); (repeat' split) <;> simp; done)
@[simp] theorem raiseStale_seq (g : Group) (s : State) : (raiseStale g s).seq = s.seq := by
  first | (unfold raiseStale; simp; done) | (unfold raiseStale; (try dsimp only); (repeat' split) <;> simp; done)
@[simp] theorem raiseStale_reg (g : Group) (s : State) : (raiseStale g s).reg = s.reg := by
  first | (unfold raiseStale; simp; done) | (unfold raiseStale; (try dsimp only); (repeat' split) <;> simp; done)
@[simp] theorem raiseStale_sup (g : Group) (s : State) : (raiseStale g s).sup = s.sup := by
  first | (unfold raiseStale; simp; done) | (unfold raiseStale; (try dsimp only); (repeat' split) <;> simp; done)
@[simp] theorem raiseStale_planner (g : Group) (s : State) : (raiseStale g s).planner = s.planner := by
  first | (unfold raiseStale; simp; done) | (unfold raiseStale; (try dsimp only); (repeat' split) <;> simp; done)

/-! ## `raiseStaleCleared` -/

@[simp] theorem raiseStaleCleared_fixed (g : Group) (s : State) : (raiseStaleCleared g s).fixed = s.fixed := by
  first | (unfold raiseStaleCleared; simp; done) | (unfold raiseStaleCleared; (try dsimp only); (repeat' split) <;> simp; done)
@[simp] theorem raiseStaleCleared_topo (g : Group) (s : State) : (raiseStaleCleared g s).topo = s.topo := by
  first | (unfold raiseStaleCleared; simp; done) | (unfold raiseStaleCleared; (try dsimp only); (repeat' split) <;> simp; done)
@[simp] theorem raiseStaleCleared_est (g : Group) (s : State) : (raiseStaleCleared g s).est = s.est := by
  first | (unfold raiseStaleCleared; simp; done) | (unfold raiseStaleCleared; (try dsimp only); (repeat' split) <;> simp; done)
@[simp] theorem raiseStaleCleared_drive (g : Group) (s : State) : (raiseStaleCleared g s).drive = s.drive := by
  first | (unfold raiseStaleCleared; simp; done) | (unfold raiseStaleCleared; (try dsimp only); (repeat' split) <;> simp; done)
@[simp] theorem raiseStaleCleared_ring (g : Group) (s : State) : (raiseStaleCleared g s).ring = s.ring := by
  first | (unfold raiseStaleCleared; simp; done) | (unfold raiseStaleCleared; (try dsimp only); (repeat' split) <;> simp; done)
@[simp] theorem raiseStaleCleared_seq (g : Group) (s : State) : (raiseStaleCleared g s).seq = s.seq := by
  first | (unfold raiseStaleCleared; simp; done) | (unfold raiseStaleCleared; (try dsimp only); (repeat' split) <;> simp; done)
@[simp] theorem raiseStaleCleared_reg (g : Group) (s : State) : (raiseStaleCleared g s).reg = s.reg := by
  first | (unfold raiseStaleCleared; simp; done) | (unfold raiseStaleCleared; (try dsimp only); (repeat' split) <;> simp; done)
@[simp] theorem raiseStaleCleared_sup (g : Group) (s : State) : (raiseStaleCleared g s).sup = s.sup := by
  first | (unfold raiseStaleCleared; simp; done) | (unfold raiseStaleCleared; (try dsimp only); (repeat' split) <;> simp; done)
@[simp] theorem raiseStaleCleared_planner (g : Group) (s : State) : (raiseStaleCleared g s).planner = s.planner := by
  first | (unfold raiseStaleCleared; simp; done) | (unfold raiseStaleCleared; (try dsimp only); (repeat' split) <;> simp; done)

/-! ## `handEstimate` -/

@[simp] theorem handEstimate_fixed (g : Group) (b : Estimate) (s : State) : (handEstimate g b s).fixed = s.fixed := by
  first | (unfold handEstimate; simp; done) | (unfold handEstimate; (try dsimp only); (repeat' split) <;> simp; done)
@[simp] theorem handEstimate_topo (g : Group) (b : Estimate) (s : State) : (handEstimate g b s).topo = s.topo := by
  first | (unfold handEstimate; simp; done) | (unfold handEstimate; (try dsimp only); (repeat' split) <;> simp; done)
@[simp] theorem handEstimate_est (g : Group) (b : Estimate) (s : State) : (handEstimate g b s).est = s.est := by
  first | (unfold handEstimate; simp; done) | (unfold handEstimate; (try dsimp only); (repeat' split) <;> simp; done)
@[simp] theorem handEstimate_ring (g : Group) (b : Estimate) (s : State) : (handEstimate g b s).ring = s.ring := by
  first | (unfold handEstimate; simp; done) | (unfold handEstimate; (try dsimp only); (repeat' split) <;> simp; done)
@[simp] theorem handEstimate_seq_injector (g : Group) (b : Estimate) (s : State) : (handEstimate g b s).seq.injector = s.seq.injector := by
  first | (unfold handEstimate; simp; done) | (unfold handEstimate; (try dsimp only); (repeat' split) <;> simp; done)
@[simp] theorem handEstimate_reg (g : Group) (b : Estimate) (s : State) : (handEstimate g b s).reg = s.reg := by
  first | (unfold handEstimate; simp; done) | (unfold handEstimate; (try dsimp only); (repeat' split) <;> simp; done)
@[simp] theorem handEstimate_sup (g : Group) (b : Estimate) (s : State) : (handEstimate g b s).sup = s.sup := by
  first | (unfold handEstimate; simp; done) | (unfold handEstimate; (try dsimp only); (repeat' split) <;> simp; done)

/-! ## `unfreezeGroup` -/

@[simp] theorem unfreezeGroup_fixed (g : Group) (s : State) : (unfreezeGroup g s).fixed = s.fixed := by
  first | (unfold unfreezeGroup; simp; done) | (unfold unfreezeGroup; (try dsimp only); (repeat' split) <;> simp; done)
@[simp] theorem unfreezeGroup_topo (g : Group) (s : State) : (unfreezeGroup g s).topo = s.topo := by
  first | (unfold unfreezeGroup; simp; done) | (unfold unfreezeGroup; (try dsimp only); (repeat' split) <;> simp; done)
@[simp] theorem unfreezeGroup_ring (g : Group) (s : State) : (unfreezeGroup g s).ring = s.ring := by
  first | (unfold unfreezeGroup; simp; done) | (unfold unfreezeGroup; (try dsimp only); (repeat' split) <;> simp; done)
@[simp] theorem unfreezeGroup_seq_injector (g : Group) (s : State) : (unfreezeGroup g s).seq.injector = s.seq.injector := by
  first | (unfold unfreezeGroup; simp; done) | (unfold unfreezeGroup; (try dsimp only); (repeat' split) <;> simp; done)
@[simp] theorem unfreezeGroup_reg (g : Group) (s : State) : (unfreezeGroup g s).reg = s.reg := by
  first | (unfold unfreezeGroup; simp; done) | (unfold unfreezeGroup; (try dsimp only); (repeat' split) <;> simp; done)
@[simp] theorem unfreezeGroup_sup (g : Group) (s : State) : (unfreezeGroup g s).sup = s.sup := by
  first | (unfold unfreezeGroup; simp; done) | (unfold unfreezeGroup; (try dsimp only); (repeat' split) <;> simp; done)

/-! ## `testStale` -/

@[simp] theorem testStale_fixed (g : Group) (s : State) : (testStale g s).fixed = s.fixed := by
  first | (unfold testStale; simp; done) | (unfold testStale; (try dsimp only); (repeat' split) <;> simp; done)
@[simp] theorem testStale_topo (g : Group) (s : State) : (testStale g s).topo = s.topo := by
  first | (unfold testStale; simp; done) | (unfold testStale; (try dsimp only); (repeat' split) <;> simp; done)
@[simp] theorem testStale_drive (g : Group) (s : State) : (testStale g s).drive = s.drive := by
  first | (unfold testStale; simp; done) | (unfold testStale; (try dsimp only); (repeat' split) <;> simp; done)
@[simp] theorem testStale_ring (g : Group) (s : State) : (testStale g s).ring = s.ring := by
  first | (unfold testStale; simp; done) | (unfold testStale; (try dsimp only); (repeat' split) <;> simp; done)
@[simp] theorem testStale_seq (g : Group) (s : State) : (testStale g s).seq = s.seq := by
  first | (unfold testStale; simp; done) | (unfold testStale; (try dsimp only); (repeat' split) <;> simp; done)
@[simp] theorem testStale_reg (g : Group) (s : State) : (testStale g s).reg = s.reg := by
  first | (unfold testStale; simp; done) | (unfold testStale; (try dsimp only); (repeat' split) <;> simp; done)
@[simp] theorem testStale_sup (g : Group) (s : State) : (testStale g s).sup = s.sup := by
  first | (unfold testStale; simp; done) | (unfold testStale; (try dsimp only); (repeat' split) <;> simp; done)
@[simp] theorem testStale_planner (g : Group) (s : State) : (testStale g s).planner = s.planner := by
  first | (unfold testStale; simp; done) | (unfold testStale; (try dsimp only); (repeat' split) <;> simp; done)

/-! ## `adjustEstimate` -/

@[simp] theorem adjustEstimate_fixed (g : Group) (a : Bool) (n : Nat) (s : State) : (adjustEstimate g a n s).fixed = s.fixed := by
  first | (unfold adjustEstimate; simp; done) | (unfold adjustEstimate; (try dsimp only); (repeat' split) <;> simp; done)
@[simp] theorem adjustEstimate_topo (g : Group) (a : Bool) (n : Nat) (s : State) : (adjustEstimate g a n s).topo = s.topo := by
  first | (unfold adjustEstimate; simp; done) | (unfold adjustEstimate; (try dsimp only); (repeat' split) <;> simp; done)
@[simp] theorem adjustEstimate_ring (g : Group) (a : Bool) (n : Nat) (s : State) : (adjustEstimate g a n s).ring = s.ring := by
  first | (unfold adjustEstimate; simp; done) | (unfold adjustEstimate; (try dsimp only); (repeat' split) <;> simp; done)
@[simp] theorem adjustEstimate_seq_injector (g : Group) (a : Bool) (n : Nat) (s : State) : (adjustEstimate g a n s).seq.injector = s.seq.injector := by
  first | (unfold adjustEstimate; simp; done) | (unfold adjustEstimate; (try dsimp only); (repeat' split) <;> simp; done)
@[simp] theorem adjustEstimate_reg (g : Group) (a : Bool) (n : Nat) (s : State) : (adjustEstimate g a n s).reg = s.reg := by
  first | (unfold adjustEstimate; simp; done) | (unfold adjustEstimate; (try dsimp only); (repeat' split) <;> simp; done)
@[simp] theorem adjustEstimate_sup (g : Group) (a : Bool) (n : Nat) (s : State) : (adjustEstimate g a n s).sup = s.sup := by
  first | (unfold adjustEstimate; simp; done) | (unfold adjustEstimate; (try dsimp only); (repeat' split) <;> simp; done)

/-! ## `quietWork` -/

@[simp] theorem quietWork_fixed (g : Group) (s : State) : (quietWork g s).fixed = s.fixed := by
  first | (unfold quietWork; simp; done) | (unfold quietWork; (try dsimp only); (repeat' split) <;> simp; done)
@[simp] theorem quietWork_topo (g : Group) (s : State) : (quietWork g s).topo = s.topo := by
  first | (unfold quietWork; simp; done) | (unfold quietWork; (try dsimp only); (repeat' split) <;> simp; done)
@[simp] theorem quietWork_drive (g : Group) (s : State) : (quietWork g s).drive = s.drive := by
  first | (unfold quietWork; simp; done) | (unfold quietWork; (try dsimp only); (repeat' split) <;> simp; done)
@[simp] theorem quietWork_events (g : Group) (s : State) : (quietWork g s).events = s.events := by
  first | (unfold quietWork; simp; done) | (unfold quietWork; (try dsimp only); (repeat' split) <;> simp; done)
@[simp] theorem quietWork_ring (g : Group) (s : State) : (quietWork g s).ring = s.ring := by
  first | (unfold quietWork; simp; done) | (unfold quietWork; (try dsimp only); (repeat' split) <;> simp; done)
@[simp] theorem quietWork_seq_injector (g : Group) (s : State) : (quietWork g s).seq.injector = s.seq.injector := by
  first | (unfold quietWork; simp; done) | (unfold quietWork; (try dsimp only); (repeat' split) <;> simp; done)
@[simp] theorem quietWork_reg (g : Group) (s : State) : (quietWork g s).reg = s.reg := by
  first | (unfold quietWork; simp; done) | (unfold quietWork; (try dsimp only); (repeat' split) <;> simp; done)
@[simp] theorem quietWork_sup (g : Group) (s : State) : (quietWork g s).sup = s.sup := by
  first | (unfold quietWork; simp; done) | (unfold quietWork; (try dsimp only); (repeat' split) <;> simp; done)
@[simp] theorem quietWork_planner (g : Group) (s : State) : (quietWork g s).planner = s.planner := by
  first | (unfold quietWork; simp; done) | (unfold quietWork; (try dsimp only); (repeat' split) <;> simp; done)

/-! ## `takeTransition` -/

@[simp] theorem takeTransition_fixed (n : FeederNo) (x : FeederState) (s : State) : (takeTransition n x s).fixed = s.fixed := by
  unfold takeTransition; dsimp only; split
  · rfl
  · refine (switchTrigger_fixed _ _).trans ((fixed_with_reg _ _).trans ?_); simp; split <;> simp
@[simp] theorem takeTransition_topo (n : FeederNo) (x : FeederState) (s : State) : (takeTransition n x s).topo = s.topo := by
  unfold takeTransition; dsimp only; split; · rfl
  split <;> simp
@[simp] theorem takeTransition_ring (n : FeederNo) (x : FeederState) (s : State) : (takeTransition n x s).ring = s.ring := by
  unfold takeTransition; dsimp only; split; · rfl
  split <;> simp
@[simp] theorem takeTransition_seq_injector (n : FeederNo) (x : FeederState) (s : State) : (takeTransition n x s).seq.injector = s.seq.injector := by
  unfold takeTransition; dsimp only; split; · rfl
  split <;> simp
@[simp] theorem takeTransition_sup (n : FeederNo) (x : FeederState) (s : State) : (takeTransition n x s).sup = s.sup := by
  unfold takeTransition; dsimp only; split; · rfl
  split <;> simp

/-! ## `deliverFeeder` -/

@[simp] theorem deliverFeeder_fixed (n : FeederNo) (a : Bool) (s : State) : (deliverFeeder n a s).fixed = s.fixed := by
  first | (unfold deliverFeeder; simp; done) | (unfold deliverFeeder; (try dsimp only); (repeat' split) <;> simp; done)
@[simp] theorem deliverFeeder_topo (n : FeederNo) (a : Bool) (s : State) : (deliverFeeder n a s).topo = s.topo := by
  first | (unfold deliverFeeder; simp; done) | (unfold deliverFeeder; (try dsimp only); (repeat' split) <;> simp; done)
@[simp] theorem deliverFeeder_ring (n : FeederNo) (a : Bool) (s : State) : (deliverFeeder n a s).ring = s.ring := by
  first | (unfold deliverFeeder; simp; done) | (unfold deliverFeeder; (try dsimp only); (repeat' split) <;> simp; done)
@[simp] theorem deliverFeeder_seq_injector (n : FeederNo) (a : Bool) (s : State) : (deliverFeeder n a s).seq.injector = s.seq.injector := by
  first | (unfold deliverFeeder; simp; done) | (unfold deliverFeeder; (try dsimp only); (repeat' split) <;> simp; done)
@[simp] theorem deliverFeeder_sup (n : FeederNo) (a : Bool) (s : State) : (deliverFeeder n a s).sup = s.sup := by
  first | (unfold deliverFeeder; simp; done) | (unfold deliverFeeder; (try dsimp only); (repeat' split) <;> simp; done)

/-! ## `takeIndication` -/

@[simp] theorem takeIndication_fixed (n : FeederNo) (s : State) : (takeIndication n s).fixed = s.fixed := by
  first | (unfold takeIndication; simp; done) | (unfold takeIndication; (try dsimp only); (repeat' split) <;> simp; done)
@[simp] theorem takeIndication_topo (n : FeederNo) (s : State) : (takeIndication n s).topo = s.topo := by
  first | (unfold takeIndication; simp; done) | (unfold takeIndication; (try dsimp only); (repeat' split) <;> simp; done)
@[simp] theorem takeIndication_ring (n : FeederNo) (s : State) : (takeIndication n s).ring = s.ring := by
  first | (unfold takeIndication; simp; done) | (unfold takeIndication; (try dsimp only); (repeat' split) <;> simp; done)
@[simp] theorem takeIndication_seq_injector (n : FeederNo) (s : State) : (takeIndication n s).seq.injector = s.seq.injector := by
  first | (unfold takeIndication; simp; done) | (unfold takeIndication; (try dsimp only); (repeat' split) <;> simp; done)
@[simp] theorem takeIndication_sup (n : FeederNo) (s : State) : (takeIndication n s).sup = s.sup := by
  first | (unfold takeIndication; simp; done) | (unfold takeIndication; (try dsimp only); (repeat' split) <;> simp; done)

/-! ## `updateContribution` -/

@[simp] theorem updateContribution_fixed (g : Group) (i : Nat) (m : Bool) (s : State) : (updateContribution g i m s).fixed = s.fixed := by
  unfold updateContribution; split; · rfl
  dsimp only; split; · rfl
  split <;> simp
@[simp] theorem updateContribution_topo (g : Group) (i : Nat) (m : Bool) (s : State) : (updateContribution g i m s).topo = s.topo := by
  unfold updateContribution; split; · rfl
  dsimp only; split; · rfl
  split <;> simp
@[simp] theorem updateContribution_est (g : Group) (i : Nat) (m : Bool) (s : State) : (updateContribution g i m s).est = s.est := by
  unfold updateContribution; split; · rfl
  dsimp only; split; · rfl
  split <;> simp
@[simp] theorem updateContribution_drive (g : Group) (i : Nat) (m : Bool) (s : State) : (updateContribution g i m s).drive = s.drive := by
  unfold updateContribution; split; · rfl
  dsimp only; split; · rfl
  split <;> simp
@[simp] theorem updateContribution_ring (g : Group) (i : Nat) (m : Bool) (s : State) : (updateContribution g i m s).ring = s.ring := by
  unfold updateContribution; split; · rfl
  dsimp only; split; · rfl
  split <;> simp
@[simp] theorem updateContribution_seq (g : Group) (i : Nat) (m : Bool) (s : State) : (updateContribution g i m s).seq = s.seq := by
  unfold updateContribution; split; · rfl
  dsimp only; split; · rfl
  split <;> simp
@[simp] theorem updateContribution_reg_list (g : Group) (i : Nat) (m : Bool) (s : State) : (updateContribution g i m s).reg.list = s.reg.list := by
  unfold updateContribution; split; · rfl
  dsimp only; split; · rfl
  split <;> simp
@[simp] theorem updateContribution_sup (g : Group) (i : Nat) (m : Bool) (s : State) : (updateContribution g i m s).sup = s.sup := by
  unfold updateContribution; split; · rfl
  dsimp only; split; · rfl
  split <;> simp
@[simp] theorem updateContribution_planner (g : Group) (i : Nat) (m : Bool) (s : State) : (updateContribution g i m s).planner = s.planner := by
  unfold updateContribution; split; · rfl
  dsimp only; split; · rfl
  split <;> simp

/-! ## `takeOutcome` -/

@[simp] theorem takeOutcome_fixed (g : Group) (k : FoldKind) (i : Nat) (m : Bool) (s : State) : (takeOutcome g k i m s).fixed = s.fixed := by
  first | (unfold takeOutcome; simp; done) | (unfold takeOutcome; (try dsimp only); (repeat' split) <;> simp; done)
@[simp] theorem takeOutcome_topo (g : Group) (k : FoldKind) (i : Nat) (m : Bool) (s : State) : (takeOutcome g k i m s).topo = s.topo := by
  first | (unfold takeOutcome; simp; done) | (unfold takeOutcome; (try dsimp only); (repeat' split) <;> simp; done)
@[simp] theorem takeOutcome_est (g : Group) (k : FoldKind) (i : Nat) (m : Bool) (s : State) : (takeOutcome g k i m s).est = s.est := by
  first | (unfold takeOutcome; simp; done) | (unfold takeOutcome; (try dsimp only); (repeat' split) <;> simp; done)
@[simp] theorem takeOutcome_drive (g : Group) (k : FoldKind) (i : Nat) (m : Bool) (s : State) : (takeOutcome g k i m s).drive = s.drive := by
  first | (unfold takeOutcome; simp; done) | (unfold takeOutcome; (try dsimp only); (repeat' split) <;> simp; done)
@[simp] theorem takeOutcome_ring (g : Group) (k : FoldKind) (i : Nat) (m : Bool) (s : State) : (takeOutcome g k i m s).ring = s.ring := by
  first | (unfold takeOutcome; simp; done) | (unfold takeOutcome; (try dsimp only); (repeat' split) <;> simp; done)
@[simp] theorem takeOutcome_seq (g : Group) (k : FoldKind) (i : Nat) (m : Bool) (s : State) : (takeOutcome g k i m s).seq = s.seq := by
  first | (unfold takeOutcome; simp; done) | (unfold takeOutcome; (try dsimp only); (repeat' split) <;> simp; done)
@[simp] theorem takeOutcome_sup (g : Group) (k : FoldKind) (i : Nat) (m : Bool) (s : State) : (takeOutcome g k i m s).sup = s.sup := by
  first | (unfold takeOutcome; simp; done) | (unfold takeOutcome; (try dsimp only); (repeat' split) <;> simp; done)
@[simp] theorem takeOutcome_planner (g : Group) (k : FoldKind) (i : Nat) (m : Bool) (s : State) : (takeOutcome g k i m s).planner = s.planner := by
  first | (unfold takeOutcome; simp; done) | (unfold takeOutcome; (try dsimp only); (repeat' split) <;> simp; done)

/-! ## `endHold` -/

@[simp] theorem endHold_fixed (g : Group) (s : State) : (endHold g s).fixed = s.fixed := by
  first | (unfold endHold; simp; done) | (unfold endHold; (try dsimp only); (repeat' split) <;> simp; done)
@[simp] theorem endHold_topo (g : Group) (s : State) : (endHold g s).topo = s.topo := by
  first | (unfold endHold; simp; done) | (unfold endHold; (try dsimp only); (repeat' split) <;> simp; done)
@[simp] theorem endHold_ring (g : Group) (s : State) : (endHold g s).ring = s.ring := by
  first | (unfold endHold; simp; done) | (unfold endHold; (try dsimp only); (repeat' split) <;> simp; done)
@[simp] theorem endHold_seq_injector (g : Group) (s : State) : (endHold g s).seq.injector = s.seq.injector := by
  first | (unfold endHold; simp; done) | (unfold endHold; (try dsimp only); (repeat' split) <;> simp; done)
@[simp] theorem endHold_reg (g : Group) (s : State) : (endHold g s).reg = s.reg := by
  first | (unfold endHold; simp; done) | (unfold endHold; (try dsimp only); (repeat' split) <;> simp; done)
@[simp] theorem endHold_sup_log (g : Group) (s : State) : (endHold g s).sup.log = s.sup.log := by
  first | (unfold endHold; simp; done) | (unfold endHold; (try dsimp only); (repeat' split) <;> simp; done)

/-! ## `startHold` -/

@[simp] theorem startHold_fixed (g : Group) (s : State) : (startHold g s).fixed = s.fixed := by
  first | (unfold startHold; simp; done) | (unfold startHold; (try dsimp only); (repeat' split) <;> simp; done)
@[simp] theorem startHold_topo (g : Group) (s : State) : (startHold g s).topo = s.topo := by
  first | (unfold startHold; simp; done) | (unfold startHold; (try dsimp only); (repeat' split) <;> simp; done)
@[simp] theorem startHold_ring (g : Group) (s : State) : (startHold g s).ring = s.ring := by
  first | (unfold startHold; simp; done) | (unfold startHold; (try dsimp only); (repeat' split) <;> simp; done)
@[simp] theorem startHold_seq_injector (g : Group) (s : State) : (startHold g s).seq.injector = s.seq.injector := by
  first | (unfold startHold; simp; done) | (unfold startHold; (try dsimp only); (repeat' split) <;> simp; done)
@[simp] theorem startHold_reg (g : Group) (s : State) : (startHold g s).reg = s.reg := by
  first | (unfold startHold; simp; done) | (unfold startHold; (try dsimp only); (repeat' split) <;> simp; done)
@[simp] theorem startHold_sup_log (g : Group) (s : State) : (startHold g s).sup.log = s.sup.log := by
  first | (unfold startHold; simp; done) | (unfold startHold; (try dsimp only); (repeat' split) <;> simp; done)

/-! ## `interruptDrives` -/

@[simp] theorem interruptDrives_fixed (g : Group) (s : State) : (interruptDrives g s).fixed = s.fixed := by
  first | (unfold interruptDrives; simp; done) | (unfold interruptDrives; (try dsimp only); (repeat' split) <;> simp; done)
@[simp] theorem interruptDrives_topo (g : Group) (s : State) : (interruptDrives g s).topo = s.topo := by
  first | (unfold interruptDrives; simp; done) | (unfold interruptDrives; (try dsimp only); (repeat' split) <;> simp; done)
@[simp] theorem interruptDrives_est (g : Group) (s : State) : (interruptDrives g s).est = s.est := by
  first | (unfold interruptDrives; simp; done) | (unfold interruptDrives; (try dsimp only); (repeat' split) <;> simp; done)
@[simp] theorem interruptDrives_ring (g : Group) (s : State) : (interruptDrives g s).ring = s.ring := by
  first | (unfold interruptDrives; simp; done) | (unfold interruptDrives; (try dsimp only); (repeat' split) <;> simp; done)
@[simp] theorem interruptDrives_seq_injector (g : Group) (s : State) : (interruptDrives g s).seq.injector = s.seq.injector := by
  first | (unfold interruptDrives; simp; done) | (unfold interruptDrives; (try dsimp only); (repeat' split) <;> simp; done)
@[simp] theorem interruptDrives_reg (g : Group) (s : State) : (interruptDrives g s).reg = s.reg := by
  first | (unfold interruptDrives; simp; done) | (unfold interruptDrives; (try dsimp only); (repeat' split) <;> simp; done)
@[simp] theorem interruptDrives_sup (g : Group) (s : State) : (interruptDrives g s).sup = s.sup := by
  first | (unfold interruptDrives; simp; done) | (unfold interruptDrives; (try dsimp only); (repeat' split) <;> simp; done)
@[simp] theorem interruptDrives_planner (g : Group) (s : State) : (interruptDrives g s).planner = s.planner := by
  first | (unfold interruptDrives; simp; done) | (unfold interruptDrives; (try dsimp only); (repeat' split) <;> simp; done)

/-! ## `falseStart` -/

@[simp] theorem falseStart_fixed (c : Coil) (g : Group) (s : State) : (falseStart c g s).fixed = s.fixed := by
  first | (unfold falseStart; simp; done) | (unfold falseStart; (try dsimp only); (repeat' split) <;> simp; done)
@[simp] theorem falseStart_topo (c : Coil) (g : Group) (s : State) : (falseStart c g s).topo = s.topo := by
  first | (unfold falseStart; simp; done) | (unfold falseStart; (try dsimp only); (repeat' split) <;> simp; done)
@[simp] theorem falseStart_est (c : Coil) (g : Group) (s : State) : (falseStart c g s).est = s.est := by
  first | (unfold falseStart; simp; done) | (unfold falseStart; (try dsimp only); (repeat' split) <;> simp; done)
@[simp] theorem falseStart_drive (c : Coil) (g : Group) (s : State) : (falseStart c g s).drive = s.drive := by
  first | (unfold falseStart; simp; done) | (unfold falseStart; (try dsimp only); (repeat' split) <;> simp; done)
@[simp] theorem falseStart_ring (c : Coil) (g : Group) (s : State) : (falseStart c g s).ring = s.ring := by
  first | (unfold falseStart; simp; done) | (unfold falseStart; (try dsimp only); (repeat' split) <;> simp; done)
@[simp] theorem falseStart_reg (c : Coil) (g : Group) (s : State) : (falseStart c g s).reg = s.reg := by
  first | (unfold falseStart; simp; done) | (unfold falseStart; (try dsimp only); (repeat' split) <;> simp; done)
@[simp] theorem falseStart_sup (c : Coil) (g : Group) (s : State) : (falseStart c g s).sup = s.sup := by
  first | (unfold falseStart; simp; done) | (unfold falseStart; (try dsimp only); (repeat' split) <;> simp; done)
@[simp] theorem falseStart_planner (c : Coil) (g : Group) (s : State) : (falseStart c g s).planner = s.planner := by
  first | (unfold falseStart; simp; done) | (unfold falseStart; (try dsimp only); (repeat' split) <;> simp; done)

/-! ## `failMark` -/

@[simp] theorem failMark_fixed (q : Section) (s : State) : (failMark q s).fixed = s.fixed := by
  first | (unfold failMark; simp; done) | (unfold failMark; (try dsimp only); (repeat' split) <;> simp; done)
@[simp] theorem failMark_topo (q : Section) (s : State) : (failMark q s).topo = s.topo := by
  first | (unfold failMark; simp; done) | (unfold failMark; (try dsimp only); (repeat' split) <;> simp; done)
@[simp] theorem failMark_est (q : Section) (s : State) : (failMark q s).est = s.est := by
  first | (unfold failMark; simp; done) | (unfold failMark; (try dsimp only); (repeat' split) <;> simp; done)
@[simp] theorem failMark_drive (q : Section) (s : State) : (failMark q s).drive = s.drive := by
  first | (unfold failMark; simp; done) | (unfold failMark; (try dsimp only); (repeat' split) <;> simp; done)
@[simp] theorem failMark_ring (q : Section) (s : State) : (failMark q s).ring = s.ring := by
  first | (unfold failMark; simp; done) | (unfold failMark; (try dsimp only); (repeat' split) <;> simp; done)
@[simp] theorem failMark_reg (q : Section) (s : State) : (failMark q s).reg = s.reg := by
  first | (unfold failMark; simp; done) | (unfold failMark; (try dsimp only); (repeat' split) <;> simp; done)
@[simp] theorem failMark_sup (q : Section) (s : State) : (failMark q s).sup = s.sup := by
  first | (unfold failMark; simp; done) | (unfold failMark; (try dsimp only); (repeat' split) <;> simp; done)
@[simp] theorem failMark_planner (q : Section) (s : State) : (failMark q s).planner = s.planner := by
  first | (unfold failMark; simp; done) | (unfold failMark; (try dsimp only); (repeat' split) <;> simp; done)

/-! ## `settleGenuine` -/

@[simp] theorem settleGenuine_fixed (x : List Section) (s : State) : (settleGenuine x s).fixed = s.fixed := by
  first | (unfold settleGenuine; simp; done) | (unfold settleGenuine; (try dsimp only); (repeat' split) <;> simp; done)
@[simp] theorem settleGenuine_topo (x : List Section) (s : State) : (settleGenuine x s).topo = s.topo := by
  first | (unfold settleGenuine; simp; done) | (unfold settleGenuine; (try dsimp only); (repeat' split) <;> simp; done)
@[simp] theorem settleGenuine_est (x : List Section) (s : State) : (settleGenuine x s).est = s.est := by
  first | (unfold settleGenuine; simp; done) | (unfold settleGenuine; (try dsimp only); (repeat' split) <;> simp; done)
@[simp] theorem settleGenuine_drive (x : List Section) (s : State) : (settleGenuine x s).drive = s.drive := by
  first | (unfold settleGenuine; simp; done) | (unfold settleGenuine; (try dsimp only); (repeat' split) <;> simp; done)
@[simp] theorem settleGenuine_events (x : List Section) (s : State) : (settleGenuine x s).events = s.events := by
  first | (unfold settleGenuine; simp; done) | (unfold settleGenuine; (try dsimp only); (repeat' split) <;> simp; done)
@[simp] theorem settleGenuine_ring (x : List Section) (s : State) : (settleGenuine x s).ring = s.ring := by
  first | (unfold settleGenuine; simp; done) | (unfold settleGenuine; (try dsimp only); (repeat' split) <;> simp; done)
@[simp] theorem settleGenuine_seq_machine (x : List Section) (s : State) : (settleGenuine x s).seq.machine = s.seq.machine := by
  first | (unfold settleGenuine; simp; done) | (unfold settleGenuine; (try dsimp only); (repeat' split) <;> simp; done)
@[simp] theorem settleGenuine_seq_injector (x : List Section) (s : State) : (settleGenuine x s).seq.injector = s.seq.injector := by
  first | (unfold settleGenuine; simp; done) | (unfold settleGenuine; (try dsimp only); (repeat' split) <;> simp; done)
@[simp] theorem settleGenuine_reg (x : List Section) (s : State) : (settleGenuine x s).reg = s.reg := by
  first | (unfold settleGenuine; simp; done) | (unfold settleGenuine; (try dsimp only); (repeat' split) <;> simp; done)
@[simp] theorem settleGenuine_sup (x : List Section) (s : State) : (settleGenuine x s).sup = s.sup := by
  first | (unfold settleGenuine; simp; done) | (unfold settleGenuine; (try dsimp only); (repeat' split) <;> simp; done)
@[simp] theorem settleGenuine_planner (x : List Section) (s : State) : (settleGenuine x s).planner = s.planner := by
  first | (unfold settleGenuine; simp; done) | (unfold settleGenuine; (try dsimp only); (repeat' split) <;> simp; done)

/-! ## `crossingReport` -/

@[simp] theorem crossingReport_fixed (g : Group) (c : Coil) (x : List Section) (s : State) : (crossingReport g c x s).fixed = s.fixed := by
  first | (unfold crossingReport; simp; done) | (unfold crossingReport; (try dsimp only); (repeat' split) <;> simp; done)
@[simp] theorem crossingReport_topo (g : Group) (c : Coil) (x : List Section) (s : State) : (crossingReport g c x s).topo = s.topo := by
  first | (unfold crossingReport; simp; done) | (unfold crossingReport; (try dsimp only); (repeat' split) <;> simp; done)
@[simp] theorem crossingReport_drive (g : Group) (c : Coil) (x : List Section) (s : State) : (crossingReport g c x s).drive = s.drive := by
  first | (unfold crossingReport; simp; done) | (unfold crossingReport; (try dsimp only); (repeat' split) <;> simp; done)
@[simp] theorem crossingReport_reg (g : Group) (c : Coil) (x : List Section) (s : State) : (crossingReport g c x s).reg = s.reg := by
  first | (unfold crossingReport; simp; done) | (unfold crossingReport; (try dsimp only); (repeat' split) <;> simp; done)
@[simp] theorem crossingReport_sup (g : Group) (c : Coil) (x : List Section) (s : State) : (crossingReport g c x s).sup = s.sup := by
  first | (unfold crossingReport; simp; done) | (unfold crossingReport; (try dsimp only); (repeat' split) <;> simp; done)
@[simp] theorem crossingReport_planner (g : Group) (c : Coil) (x : List Section) (s : State) : (crossingReport g c x s).planner = s.planner := by
  first | (unfold crossingReport; simp; done) | (unfold crossingReport; (try dsimp only); (repeat' split) <;> simp; done)

/-! ## `startTest` -/

@[simp] theorem startTest_fixed (q : Section) (s : State) : (startTest q s).fixed = s.fixed := by
  first | (unfold startTest; simp; done) | (unfold startTest; (try dsimp only); (repeat' split) <;> simp; done)
@[simp] theorem startTest_topo (q : Section) (s : State) : (startTest q s).topo = s.topo := by
  first | (unfold startTest; simp; done) | (unfold startTest; (try dsimp only); (repeat' split) <;> simp; done)
@[simp] theorem startTest_est (q : Section) (s : State) : (startTest q s).est = s.est := by
  first | (unfold startTest; simp; done) | (unfold startTest; (try dsimp only); (repeat' split) <;> simp; done)
@[simp] theorem startTest_drive (q : Section) (s : State) : (startTest q s).drive = s.drive := by
  first | (unfold startTest; simp; done) | (unfold startTest; (try dsimp only); (repeat' split) <;> simp; done)
@[simp] theorem startTest_ring (q : Section) (s : State) : (startTest q s).ring = s.ring := by
  first | (unfold startTest; simp; done) | (unfold startTest; (try dsimp only); (repeat' split) <;> simp; done)
@[simp] theorem startTest_reg (q : Section) (s : State) : (startTest q s).reg = s.reg := by
  first | (unfold startTest; simp; done) | (unfold startTest; (try dsimp only); (repeat' split) <;> simp; done)
@[simp] theorem startTest_sup_log (q : Section) (s : State) : (startTest q s).sup.log = s.sup.log := by
  first | (unfold startTest; simp; done) | (unfold startTest; (try dsimp only); (repeat' split) <;> simp; done)
@[simp] theorem startTest_planner (q : Section) (s : State) : (startTest q s).planner = s.planner := by
  first | (unfold startTest; simp; done) | (unfold startTest; (try dsimp only); (repeat' split) <;> simp; done)

/-! ## `endTest` -/

@[simp] theorem endTest_fixed (q : Section) (s : State) : (endTest q s).fixed = s.fixed := by
  first | (unfold endTest; simp; done) | (unfold endTest; (try dsimp only); (repeat' split) <;> simp; done)
@[simp] theorem endTest_topo (q : Section) (s : State) : (endTest q s).topo = s.topo := by
  first | (unfold endTest; simp; done) | (unfold endTest; (try dsimp only); (repeat' split) <;> simp; done)
@[simp] theorem endTest_est (q : Section) (s : State) : (endTest q s).est = s.est := by
  first | (unfold endTest; simp; done) | (unfold endTest; (try dsimp only); (repeat' split) <;> simp; done)
@[simp] theorem endTest_drive (q : Section) (s : State) : (endTest q s).drive = s.drive := by
  first | (unfold endTest; simp; done) | (unfold endTest; (try dsimp only); (repeat' split) <;> simp; done)
@[simp] theorem endTest_events (q : Section) (s : State) : (endTest q s).events = s.events := by
  first | (unfold endTest; simp; done) | (unfold endTest; (try dsimp only); (repeat' split) <;> simp; done)
@[simp] theorem endTest_ring (q : Section) (s : State) : (endTest q s).ring = s.ring := by
  first | (unfold endTest; simp; done) | (unfold endTest; (try dsimp only); (repeat' split) <;> simp; done)
@[simp] theorem endTest_seq (q : Section) (s : State) : (endTest q s).seq = s.seq := by
  first | (unfold endTest; simp; done) | (unfold endTest; (try dsimp only); (repeat' split) <;> simp; done)
@[simp] theorem endTest_reg (q : Section) (s : State) : (endTest q s).reg = s.reg := by
  first | (unfold endTest; simp; done) | (unfold endTest; (try dsimp only); (repeat' split) <;> simp; done)
@[simp] theorem endTest_planner (q : Section) (s : State) : (endTest q s).planner = s.planner := by
  first | (unfold endTest; simp; done) | (unfold endTest; (try dsimp only); (repeat' split) <;> simp; done)

/-! ## `sectionTest` -/

@[simp] theorem sectionTest_fixed (q : Section) (s : State) : (sectionTest q s).fixed = s.fixed := by
  first | (unfold sectionTest; simp; done) | (unfold sectionTest; (try dsimp only); (repeat' split) <;> simp; done)
@[simp] theorem sectionTest_topo (q : Section) (s : State) : (sectionTest q s).topo = s.topo := by
  first | (unfold sectionTest; simp; done) | (unfold sectionTest; (try dsimp only); (repeat' split) <;> simp; done)
@[simp] theorem sectionTest_est (q : Section) (s : State) : (sectionTest q s).est = s.est := by
  first | (unfold sectionTest; simp; done) | (unfold sectionTest; (try dsimp only); (repeat' split) <;> simp; done)
@[simp] theorem sectionTest_drive (q : Section) (s : State) : (sectionTest q s).drive = s.drive := by
  first | (unfold sectionTest; simp; done) | (unfold sectionTest; (try dsimp only); (repeat' split) <;> simp; done)
@[simp] theorem sectionTest_ring (q : Section) (s : State) : (sectionTest q s).ring = s.ring := by
  first | (unfold sectionTest; simp; done) | (unfold sectionTest; (try dsimp only); (repeat' split) <;> simp; done)
@[simp] theorem sectionTest_reg (q : Section) (s : State) : (sectionTest q s).reg = s.reg := by
  first | (unfold sectionTest; simp; done) | (unfold sectionTest; (try dsimp only); (repeat' split) <;> simp; done)
@[simp] theorem sectionTest_planner (q : Section) (s : State) : (sectionTest q s).planner = s.planner := by
  first | (unfold sectionTest; simp; done) | (unfold sectionTest; (try dsimp only); (repeat' split) <;> simp; done)

/-! ## `crossingTest` -/

@[simp] theorem crossingTest_fixed (g : Group) (s : State) : (crossingTest g s).fixed = s.fixed := by
  first | (unfold crossingTest; simp; done) | (unfold crossingTest; (try dsimp only); (repeat' split) <;> simp; done)
@[simp] theorem crossingTest_topo (g : Group) (s : State) : (crossingTest g s).topo = s.topo := by
  first | (unfold crossingTest; simp; done) | (unfold crossingTest; (try dsimp only); (repeat' split) <;> simp; done)
@[simp] theorem crossingTest_drive (g : Group) (s : State) : (crossingTest g s).drive = s.drive := by
  first | (unfold crossingTest; simp; done) | (unfold crossingTest; (try dsimp only); (repeat' split) <;> simp; done)
@[simp] theorem crossingTest_reg (g : Group) (s : State) : (crossingTest g s).reg = s.reg := by
  first | (unfold crossingTest; simp; done) | (unfold crossingTest; (try dsimp only); (repeat' split) <;> simp; done)
@[simp] theorem crossingTest_sup (g : Group) (s : State) : (crossingTest g s).sup = s.sup := by
  first | (unfold crossingTest; simp; done) | (unfold crossingTest; (try dsimp only); (repeat' split) <;> simp; done)
@[simp] theorem crossingTest_planner (g : Group) (s : State) : (crossingTest g s).planner = s.planner := by
  first | (unfold crossingTest; simp; done) | (unfold crossingTest; (try dsimp only); (repeat' split) <;> simp; done)

/-! ## `supervisorWork` -/

@[simp] theorem supervisorWork_fixed (s : State) : (supervisorWork s).fixed = s.fixed := by
  first | (unfold supervisorWork; simp; done) | (unfold supervisorWork; (try dsimp only); (repeat' split) <;> simp; done)
@[simp] theorem supervisorWork_topo (s : State) : (supervisorWork s).topo = s.topo := by
  first | (unfold supervisorWork; simp; done) | (unfold supervisorWork; (try dsimp only); (repeat' split) <;> simp; done)
@[simp] theorem supervisorWork_drive (s : State) : (supervisorWork s).drive = s.drive := by
  first | (unfold supervisorWork; simp; done) | (unfold supervisorWork; (try dsimp only); (repeat' split) <;> simp; done)
@[simp] theorem supervisorWork_reg (s : State) : (supervisorWork s).reg = s.reg := by
  first | (unfold supervisorWork; simp; done) | (unfold supervisorWork; (try dsimp only); (repeat' split) <;> simp; done)
@[simp] theorem supervisorWork_planner (s : State) : (supervisorWork s).planner = s.planner := by
  first | (unfold supervisorWork; simp; done) | (unfold supervisorWork; (try dsimp only); (repeat' split) <;> simp; done)

/-! ## `openEpisodeAt` -/

@[simp] theorem openEpisodeAt_fixed (q : Section) (d : StartDwell) (s : State) : (openEpisodeAt q d s).fixed = s.fixed := by
  unfold openEpisodeAt; simp <;> exact forEach_keeps (fun s => s.fixed) _ (fun x s => by simp) _ _
@[simp] theorem openEpisodeAt_topo (q : Section) (d : StartDwell) (s : State) : (openEpisodeAt q d s).topo = s.topo := by
  unfold openEpisodeAt; simp <;> exact forEach_keeps (fun s => s.topo) _ (fun x s => by simp) _ _
@[simp] theorem openEpisodeAt_reg (q : Section) (d : StartDwell) (s : State) : (openEpisodeAt q d s).reg = s.reg := by
  unfold openEpisodeAt; simp <;> exact forEach_keeps (fun s => s.reg) _ (fun x s => by simp) _ _
@[simp] theorem openEpisodeAt_planner (q : Section) (d : StartDwell) (s : State) : (openEpisodeAt q d s).planner = s.planner := by
  unfold openEpisodeAt; simp <;> exact forEach_keeps (fun s => s.planner) _ (fun x s => by simp) _ _

/-! ## `closeEpisode` -/

@[simp] theorem closeEpisode_fixed (e : EpisodeRecord) (s : State) : (closeEpisode e s).fixed = s.fixed := by
  unfold closeEpisode; simp; exact (forEach_keeps (fun s => s.fixed) _ (fun x s => by simp) _ _).trans (by simp)
@[simp] theorem closeEpisode_topo (e : EpisodeRecord) (s : State) : (closeEpisode e s).topo = s.topo := by
  unfold closeEpisode; simp; exact (forEach_keeps (fun s => s.topo) _ (fun x s => by simp) _ _).trans (by simp)
@[simp] theorem closeEpisode_ring (e : EpisodeRecord) (s : State) : (closeEpisode e s).ring = s.ring := by
  unfold closeEpisode; simp; exact (forEach_keeps (fun s => s.ring) _ (fun x s => by simp) _ _).trans (by simp)
@[simp] theorem closeEpisode_seq_injector (e : EpisodeRecord) (s : State) : (closeEpisode e s).seq.injector = s.seq.injector := by
  unfold closeEpisode; simp; exact (forEach_keeps (fun s => s.seq.injector) _ (fun x s => by simp) _ _).trans (by simp)
@[simp] theorem closeEpisode_reg (e : EpisodeRecord) (s : State) : (closeEpisode e s).reg = s.reg := by
  unfold closeEpisode; simp; exact (forEach_keeps (fun s => s.reg) _ (fun x s => by simp) _ _).trans (by simp)

/-! ## `endDwellDone` -/

@[simp] theorem endDwellDone_fixed (q : Section) (s : State) : (endDwellDone q s).fixed = s.fixed := by
  first | (unfold endDwellDone; simp; done) | (unfold endDwellDone; (try dsimp only); (repeat' split) <;> simp; done)
@[simp] theorem endDwellDone_topo (q : Section) (s : State) : (endDwellDone q s).topo = s.topo := by
  first | (unfold endDwellDone; simp; done) | (unfold endDwellDone; (try dsimp only); (repeat' split) <;> simp; done)
@[simp] theorem endDwellDone_ring (q : Section) (s : State) : (endDwellDone q s).ring = s.ring := by
  first | (unfold endDwellDone; simp; done) | (unfold endDwellDone; (try dsimp only); (repeat' split) <;> simp; done)
@[simp] theorem endDwellDone_seq_injector (q : Section) (s : State) : (endDwellDone q s).seq.injector = s.seq.injector := by
  first | (unfold endDwellDone; simp; done) | (unfold endDwellDone; (try dsimp only); (repeat' split) <;> simp; done)
@[simp] theorem endDwellDone_reg (q : Section) (s : State) : (endDwellDone q s).reg = s.reg := by
  first | (unfold endDwellDone; simp; done) | (unfold endDwellDone; (try dsimp only); (repeat' split) <;> simp; done)

/-! ## `persist` -/

@[simp] theorem persist_fixed (q : Section) (s : State) : (persist q s).fixed = s.fixed := by
  first | (unfold persist; simp; done) | (unfold persist; (try dsimp only); (repeat' split) <;> simp; done)
@[simp] theorem persist_topo (q : Section) (s : State) : (persist q s).topo = s.topo := by
  first | (unfold persist; simp; done) | (unfold persist; (try dsimp only); (repeat' split) <;> simp; done)
@[simp] theorem persist_est (q : Section) (s : State) : (persist q s).est = s.est := by
  first | (unfold persist; simp; done) | (unfold persist; (try dsimp only); (repeat' split) <;> simp; done)
@[simp] theorem persist_drive (q : Section) (s : State) : (persist q s).drive = s.drive := by
  first | (unfold persist; simp; done) | (unfold persist; (try dsimp only); (repeat' split) <;> simp; done)
@[simp] theorem persist_ring (q : Section) (s : State) : (persist q s).ring = s.ring := by
  first | (unfold persist; simp; done) | (unfold persist; (try dsimp only); (repeat' split) <;> simp; done)
@[simp] theorem persist_seq (q : Section) (s : State) : (persist q s).seq = s.seq := by
  first | (unfold persist; simp; done) | (unfold persist; (try dsimp only); (repeat' split) <;> simp; done)
@[simp] theorem persist_reg (q : Section) (s : State) : (persist q s).reg = s.reg := by
  first | (unfold persist; simp; done) | (unfold persist; (try dsimp only); (repeat' split) <;> simp; done)
@[simp] theorem persist_planner (q : Section) (s : State) : (persist q s).planner = s.planner := by
  first | (unfold persist; simp; done) | (unfold persist; (try dsimp only); (repeat' split) <;> simp; done)

/-! ## `faultDrive` -/

@[simp] theorem faultDrive_fixed (c : Coil) (r : FaultReason) (s : State) : (faultDrive c r s).fixed = s.fixed := by
  first | (unfold faultDrive; simp; done) | (unfold faultDrive; (try dsimp only); (repeat' split) <;> simp; done)
@[simp] theorem faultDrive_topo (c : Coil) (r : FaultReason) (s : State) : (faultDrive c r s).topo = s.topo := by
  first | (unfold faultDrive; simp; done) | (unfold faultDrive; (try dsimp only); (repeat' split) <;> simp; done)
@[simp] theorem faultDrive_est (c : Coil) (r : FaultReason) (s : State) : (faultDrive c r s).est = s.est := by
  first | (unfold faultDrive; simp; done) | (unfold faultDrive; (try dsimp only); (repeat' split) <;> simp; done)
@[simp] theorem faultDrive_ring (c : Coil) (r : FaultReason) (s : State) : (faultDrive c r s).ring = s.ring := by
  first | (unfold faultDrive; simp; done) | (unfold faultDrive; (try dsimp only); (repeat' split) <;> simp; done)
@[simp] theorem faultDrive_seq_injector (c : Coil) (r : FaultReason) (s : State) : (faultDrive c r s).seq.injector = s.seq.injector := by
  first | (unfold faultDrive; simp; done) | (unfold faultDrive; (try dsimp only); (repeat' split) <;> simp; done)
@[simp] theorem faultDrive_reg (c : Coil) (r : FaultReason) (s : State) : (faultDrive c r s).reg = s.reg := by
  first | (unfold faultDrive; simp; done) | (unfold faultDrive; (try dsimp only); (repeat' split) <;> simp; done)
@[simp] theorem faultDrive_sup (c : Coil) (r : FaultReason) (s : State) : (faultDrive c r s).sup = s.sup := by
  first | (unfold faultDrive; simp; done) | (unfold faultDrive; (try dsimp only); (repeat' split) <;> simp; done)
@[simp] theorem faultDrive_planner (c : Coil) (r : FaultReason) (s : State) : (faultDrive c r s).planner = s.planner := by
  first | (unfold faultDrive; simp; done) | (unfold faultDrive; (try dsimp only); (repeat' split) <;> simp; done)

/-! ## `enterFault` -/

@[simp] theorem enterFault_fixed (c : Coil) (r : FaultReason) (s : State) : (enterFault c r s).fixed = s.fixed := by
  first | (unfold enterFault; simp; done) | (unfold enterFault; (try dsimp only); (repeat' split) <;> simp; done)
@[simp] theorem enterFault_topo (c : Coil) (r : FaultReason) (s : State) : (enterFault c r s).topo = s.topo := by
  first | (unfold enterFault; simp; done) | (unfold enterFault; (try dsimp only); (repeat' split) <;> simp; done)
@[simp] theorem enterFault_est (c : Coil) (r : FaultReason) (s : State) : (enterFault c r s).est = s.est := by
  first | (unfold enterFault; simp; done) | (unfold enterFault; (try dsimp only); (repeat' split) <;> simp; done)
@[simp] theorem enterFault_ring (c : Coil) (r : FaultReason) (s : State) : (enterFault c r s).ring = s.ring := by
  first | (unfold enterFault; simp; done) | (unfold enterFault; (try dsimp only); (repeat' split) <;> simp; done)
@[simp] theorem enterFault_seq_injector (c : Coil) (r : FaultReason) (s : State) : (enterFault c r s).seq.injector = s.seq.injector := by
  first | (unfold enterFault; simp; done) | (unfold enterFault; (try dsimp only); (repeat' split) <;> simp; done)
@[simp] theorem enterFault_reg (c : Coil) (r : FaultReason) (s : State) : (enterFault c r s).reg = s.reg := by
  first | (unfold enterFault; simp; done) | (unfold enterFault; (try dsimp only); (repeat' split) <;> simp; done)
@[simp] theorem enterFault_sup (c : Coil) (r : FaultReason) (s : State) : (enterFault c r s).sup = s.sup := by
  first | (unfold enterFault; simp; done) | (unfold enterFault; (try dsimp only); (repeat' split) <;> simp; done)

/-! ## `takeReport` -/

@[simp] theorem takeReport_fixed (c : Coil) (s : State) : (takeReport c s).fixed = s.fixed := by
  first | (unfold takeReport; simp; done) | (unfold takeReport; (try dsimp only); (repeat' split) <;> simp; done)
@[simp] theorem takeReport_topo (c : Coil) (s : State) : (takeReport c s).topo = s.topo := by
  first | (unfold takeReport; simp; done) | (unfold takeReport; (try dsimp only); (repeat' split) <;> simp; done)
@[simp] theorem takeReport_est (c : Coil) (s : State) : (takeReport c s).est = s.est := by
  first | (unfold takeReport; simp; done) | (unfold takeReport; (try dsimp only); (repeat' split) <;> simp; done)
@[simp] theorem takeReport_events (c : Coil) (s : State) : (takeReport c s).events = s.events := by
  first | (unfold takeReport; simp; done) | (unfold takeReport; (try dsimp only); (repeat' split) <;> simp; done)
@[simp] theorem takeReport_ring (c : Coil) (s : State) : (takeReport c s).ring = s.ring := by
  first | (unfold takeReport; simp; done) | (unfold takeReport; (try dsimp only); (repeat' split) <;> simp; done)
@[simp] theorem takeReport_seq (c : Coil) (s : State) : (takeReport c s).seq = s.seq := by
  first | (unfold takeReport; simp; done) | (unfold takeReport; (try dsimp only); (repeat' split) <;> simp; done)
@[simp] theorem takeReport_reg (c : Coil) (s : State) : (takeReport c s).reg = s.reg := by
  first | (unfold takeReport; simp; done) | (unfold takeReport; (try dsimp only); (repeat' split) <;> simp; done)
@[simp] theorem takeReport_sup (c : Coil) (s : State) : (takeReport c s).sup = s.sup := by
  first | (unfold takeReport; simp; done) | (unfold takeReport; (try dsimp only); (repeat' split) <;> simp; done)
@[simp] theorem takeReport_planner (c : Coil) (s : State) : (takeReport c s).planner = s.planner := by
  first | (unfold takeReport; simp; done) | (unfold takeReport; (try dsimp only); (repeat' split) <;> simp; done)

/-! ## `observeReport` -/

@[simp] theorem observeReport_fixed (c : Coil) (p : Nat) (s : State) : (observeReport c p s).fixed = s.fixed := by
  unfold observeReport; exact forEach_keeps (fun s => s.fixed) _ (fun x s => by simp) _ _
@[simp] theorem observeReport_topo (c : Coil) (p : Nat) (s : State) : (observeReport c p s).topo = s.topo := by
  unfold observeReport; exact forEach_keeps (fun s => s.topo) _ (fun x s => by simp) _ _
@[simp] theorem observeReport_est (c : Coil) (p : Nat) (s : State) : (observeReport c p s).est = s.est := by
  unfold observeReport; exact forEach_keeps (fun s => s.est) _ (fun x s => by simp) _ _
@[simp] theorem observeReport_drive (c : Coil) (p : Nat) (s : State) : (observeReport c p s).drive = s.drive := by
  unfold observeReport; exact forEach_keeps (fun s => s.drive) _ (fun x s => by simp) _ _
@[simp] theorem observeReport_events (c : Coil) (p : Nat) (s : State) : (observeReport c p s).events = s.events := by
  unfold observeReport; exact forEach_keeps (fun s => s.events) _ (fun x s => by simp) _ _
@[simp] theorem observeReport_ring (c : Coil) (p : Nat) (s : State) : (observeReport c p s).ring = s.ring := by
  unfold observeReport; exact forEach_keeps (fun s => s.ring) _ (fun x s => by simp) _ _
@[simp] theorem observeReport_seq_injector (c : Coil) (p : Nat) (s : State) : (observeReport c p s).seq.injector = s.seq.injector := by
  unfold observeReport; exact forEach_keeps (fun s => s.seq.injector) _ (fun x s => by simp) _ _
@[simp] theorem observeReport_reg (c : Coil) (p : Nat) (s : State) : (observeReport c p s).reg = s.reg := by
  unfold observeReport; exact forEach_keeps (fun s => s.reg) _ (fun x s => by simp) _ _
@[simp] theorem observeReport_sup (c : Coil) (p : Nat) (s : State) : (observeReport c p s).sup = s.sup := by
  unfold observeReport; exact forEach_keeps (fun s => s.sup) _ (fun x s => by simp) _ _
@[simp] theorem observeReport_planner (c : Coil) (p : Nat) (s : State) : (observeReport c p s).planner = s.planner := by
  unfold observeReport; exact forEach_keeps (fun s => s.planner) _ (fun x s => by simp) _ _

/-! ## `plungerReport` -/

@[simp] theorem plungerReport_fixed (c : Coil) (p : Nat) (s : State) : (plungerReport c p s).fixed = s.fixed := by
  first | (unfold plungerReport; simp; done) | (unfold plungerReport; (try dsimp only); (repeat' split) <;> simp; done)
@[simp] theorem plungerReport_topo (c : Coil) (p : Nat) (s : State) : (plungerReport c p s).topo = s.topo := by
  first | (unfold plungerReport; simp; done) | (unfold plungerReport; (try dsimp only); (repeat' split) <;> simp; done)
@[simp] theorem plungerReport_est (c : Coil) (p : Nat) (s : State) : (plungerReport c p s).est = s.est := by
  first | (unfold plungerReport; simp; done) | (unfold plungerReport; (try dsimp only); (repeat' split) <;> simp; done)
@[simp] theorem plungerReport_ring (c : Coil) (p : Nat) (s : State) : (plungerReport c p s).ring = s.ring := by
  first | (unfold plungerReport; simp; done) | (unfold plungerReport; (try dsimp only); (repeat' split) <;> simp; done)
@[simp] theorem plungerReport_seq_injector (c : Coil) (p : Nat) (s : State) : (plungerReport c p s).seq.injector = s.seq.injector := by
  first | (unfold plungerReport; simp; done) | (unfold plungerReport; (try dsimp only); (repeat' split) <;> simp; done)
@[simp] theorem plungerReport_reg (c : Coil) (p : Nat) (s : State) : (plungerReport c p s).reg = s.reg := by
  first | (unfold plungerReport; simp; done) | (unfold plungerReport; (try dsimp only); (repeat' split) <;> simp; done)
@[simp] theorem plungerReport_sup (c : Coil) (p : Nat) (s : State) : (plungerReport c p s).sup = s.sup := by
  first | (unfold plungerReport; simp; done) | (unfold plungerReport; (try dsimp only); (repeat' split) <;> simp; done)

/-! ## `stepReport` -/

@[simp] theorem stepReport_fixed (c : Coil) (p : Nat) (s : State) : (stepReport c p s).fixed = s.fixed := by
  first | (unfold stepReport; simp; done) | (unfold stepReport; (try dsimp only); (repeat' split) <;> simp; done)
@[simp] theorem stepReport_topo (c : Coil) (p : Nat) (s : State) : (stepReport c p s).topo = s.topo := by
  first | (unfold stepReport; simp; done) | (unfold stepReport; (try dsimp only); (repeat' split) <;> simp; done)
@[simp] theorem stepReport_est (c : Coil) (p : Nat) (s : State) : (stepReport c p s).est = s.est := by
  first | (unfold stepReport; simp; done) | (unfold stepReport; (try dsimp only); (repeat' split) <;> simp; done)
@[simp] theorem stepReport_ring (c : Coil) (p : Nat) (s : State) : (stepReport c p s).ring = s.ring := by
  first | (unfold stepReport; simp; done) | (unfold stepReport; (try dsimp only); (repeat' split) <;> simp; done)
@[simp] theorem stepReport_seq_injector (c : Coil) (p : Nat) (s : State) : (stepReport c p s).seq.injector = s.seq.injector := by
  first | (unfold stepReport; simp; done) | (unfold stepReport; (try dsimp only); (repeat' split) <;> simp; done)
@[simp] theorem stepReport_reg (c : Coil) (p : Nat) (s : State) : (stepReport c p s).reg = s.reg := by
  first | (unfold stepReport; simp; done) | (unfold stepReport; (try dsimp only); (repeat' split) <;> simp; done)
@[simp] theorem stepReport_sup (c : Coil) (p : Nat) (s : State) : (stepReport c p s).sup = s.sup := by
  first | (unfold stepReport; simp; done) | (unfold stepReport; (try dsimp only); (repeat' split) <;> simp; done)

/-! ## `delayReport` -/

@[simp] theorem delayReport_fixed (c : Coil) (b : Option Nat) (p : Nat) (s : State) : (delayReport c b p s).fixed = s.fixed := by
  first | (unfold delayReport; simp; done) | (unfold delayReport; (try dsimp only); (repeat' split) <;> simp; done)
@[simp] theorem delayReport_topo (c : Coil) (b : Option Nat) (p : Nat) (s : State) : (delayReport c b p s).topo = s.topo := by
  first | (unfold delayReport; simp; done) | (unfold delayReport; (try dsimp only); (repeat' split) <;> simp; done)
@[simp] theorem delayReport_est (c : Coil) (b : Option Nat) (p : Nat) (s : State) : (delayReport c b p s).est = s.est := by
  first | (unfold delayReport; simp; done) | (unfold delayReport; (try dsimp only); (repeat' split) <;> simp; done)
@[simp] theorem delayReport_ring (c : Coil) (b : Option Nat) (p : Nat) (s : State) : (delayReport c b p s).ring = s.ring := by
  first | (unfold delayReport; simp; done) | (unfold delayReport; (try dsimp only); (repeat' split) <;> simp; done)
@[simp] theorem delayReport_seq_injector (c : Coil) (b : Option Nat) (p : Nat) (s : State) : (delayReport c b p s).seq.injector = s.seq.injector := by
  first | (unfold delayReport; simp; done) | (unfold delayReport; (try dsimp only); (repeat' split) <;> simp; done)
@[simp] theorem delayReport_reg (c : Coil) (b : Option Nat) (p : Nat) (s : State) : (delayReport c b p s).reg = s.reg := by
  first | (unfold delayReport; simp; done) | (unfold delayReport; (try dsimp only); (repeat' split) <;> simp; done)
@[simp] theorem delayReport_sup (c : Coil) (b : Option Nat) (p : Nat) (s : State) : (delayReport c b p s).sup = s.sup := by
  first | (unfold delayReport; simp; done) | (unfold delayReport; (try dsimp only); (repeat' split) <;> simp; done)

/-! ## `runningReport` -/

@[simp] theorem runningReport_fixed (c : Coil) (b : Option Nat) (p : Nat) (s : State) : (runningReport c b p s).fixed = s.fixed := by
  first | (unfold runningReport; simp; done) | (unfold runningReport; (try dsimp only); (repeat' split) <;> simp; done)
@[simp] theorem runningReport_topo (c : Coil) (b : Option Nat) (p : Nat) (s : State) : (runningReport c b p s).topo = s.topo := by
  first | (unfold runningReport; simp; done) | (unfold runningReport; (try dsimp only); (repeat' split) <;> simp; done)
@[simp] theorem runningReport_est (c : Coil) (b : Option Nat) (p : Nat) (s : State) : (runningReport c b p s).est = s.est := by
  first | (unfold runningReport; simp; done) | (unfold runningReport; (try dsimp only); (repeat' split) <;> simp; done)
@[simp] theorem runningReport_ring (c : Coil) (b : Option Nat) (p : Nat) (s : State) : (runningReport c b p s).ring = s.ring := by
  first | (unfold runningReport; simp; done) | (unfold runningReport; (try dsimp only); (repeat' split) <;> simp; done)
@[simp] theorem runningReport_seq_injector (c : Coil) (b : Option Nat) (p : Nat) (s : State) : (runningReport c b p s).seq.injector = s.seq.injector := by
  first | (unfold runningReport; simp; done) | (unfold runningReport; (try dsimp only); (repeat' split) <;> simp; done)
@[simp] theorem runningReport_reg (c : Coil) (b : Option Nat) (p : Nat) (s : State) : (runningReport c b p s).reg = s.reg := by
  first | (unfold runningReport; simp; done) | (unfold runningReport; (try dsimp only); (repeat' split) <;> simp; done)
@[simp] theorem runningReport_sup (c : Coil) (b : Option Nat) (p : Nat) (s : State) : (runningReport c b p s).sup = s.sup := by
  first | (unfold runningReport; simp; done) | (unfold runningReport; (try dsimp only); (repeat' split) <;> simp; done)

/-! ## `positionChange` -/

@[simp] theorem positionChange_fixed (c : Coil) (p : Nat) (v : Bool) (s : State) : (positionChange c p v s).fixed = s.fixed := by
  first | (unfold positionChange; simp; done) | (unfold positionChange; (try dsimp only); (repeat' split) <;> simp; done)
@[simp] theorem positionChange_topo (c : Coil) (p : Nat) (v : Bool) (s : State) : (positionChange c p v s).topo = s.topo := by
  first | (unfold positionChange; simp; done) | (unfold positionChange; (try dsimp only); (repeat' split) <;> simp; done)
@[simp] theorem positionChange_est (c : Coil) (p : Nat) (v : Bool) (s : State) : (positionChange c p v s).est = s.est := by
  first | (unfold positionChange; simp; done) | (unfold positionChange; (try dsimp only); (repeat' split) <;> simp; done)
@[simp] theorem positionChange_ring (c : Coil) (p : Nat) (v : Bool) (s : State) : (positionChange c p v s).ring = s.ring := by
  first | (unfold positionChange; simp; done) | (unfold positionChange; (try dsimp only); (repeat' split) <;> simp; done)
@[simp] theorem positionChange_seq_injector (c : Coil) (p : Nat) (v : Bool) (s : State) : (positionChange c p v s).seq.injector = s.seq.injector := by
  first | (unfold positionChange; simp; done) | (unfold positionChange; (try dsimp only); (repeat' split) <;> simp; done)
@[simp] theorem positionChange_reg (c : Coil) (p : Nat) (v : Bool) (s : State) : (positionChange c p v s).reg = s.reg := by
  first | (unfold positionChange; simp; done) | (unfold positionChange; (try dsimp only); (repeat' split) <;> simp; done)
@[simp] theorem positionChange_sup (c : Coil) (p : Nat) (v : Bool) (s : State) : (positionChange c p v s).sup = s.sup := by
  first | (unfold positionChange; simp; done) | (unfold positionChange; (try dsimp only); (repeat' split) <;> simp; done)

/-! ## `startCycle` -/

@[simp] theorem startCycle_fixed (g : Group) (s : State) : (startCycle g s).fixed = s.fixed := by
  first | (unfold startCycle; simp; done) | (unfold startCycle; (try dsimp only); (repeat' split) <;> simp; done)
@[simp] theorem startCycle_topo (g : Group) (s : State) : (startCycle g s).topo = s.topo := by
  first | (unfold startCycle; simp; done) | (unfold startCycle; (try dsimp only); (repeat' split) <;> simp; done)
@[simp] theorem startCycle_est (g : Group) (s : State) : (startCycle g s).est = s.est := by
  first | (unfold startCycle; simp; done) | (unfold startCycle; (try dsimp only); (repeat' split) <;> simp; done)
@[simp] theorem startCycle_drive (g : Group) (s : State) : (startCycle g s).drive = s.drive := by
  first | (unfold startCycle; simp; done) | (unfold startCycle; (try dsimp only); (repeat' split) <;> simp; done)
@[simp] theorem startCycle_events (g : Group) (s : State) : (startCycle g s).events = s.events := by
  first | (unfold startCycle; simp; done) | (unfold startCycle; (try dsimp only); (repeat' split) <;> simp; done)
@[simp] theorem startCycle_ring (g : Group) (s : State) : (startCycle g s).ring = s.ring := by
  first | (unfold startCycle; simp; done) | (unfold startCycle; (try dsimp only); (repeat' split) <;> simp; done)
@[simp] theorem startCycle_reg (g : Group) (s : State) : (startCycle g s).reg = s.reg := by
  first | (unfold startCycle; simp; done) | (unfold startCycle; (try dsimp only); (repeat' split) <;> simp; done)
@[simp] theorem startCycle_sup (g : Group) (s : State) : (startCycle g s).sup = s.sup := by
  first | (unfold startCycle; simp; done) | (unfold startCycle; (try dsimp only); (repeat' split) <;> simp; done)
@[simp] theorem startCycle_planner (g : Group) (s : State) : (startCycle g s).planner = s.planner := by
  first | (unfold startCycle; simp; done) | (unfold startCycle; (try dsimp only); (repeat' split) <;> simp; done)

/-! ## `raiseUnstable` -/

@[simp] theorem raiseUnstable_fixed (g : Group) (s : State) : (raiseUnstable g s).fixed = s.fixed := by
  first | (unfold raiseUnstable; simp; done) | (unfold raiseUnstable; (try dsimp only); (repeat' split) <;> simp; done)
@[simp] theorem raiseUnstable_topo (g : Group) (s : State) : (raiseUnstable g s).topo = s.topo := by
  first | (unfold raiseUnstable; simp; done) | (unfold raiseUnstable; (try dsimp only); (repeat' split) <;> simp; done)
@[simp] theorem raiseUnstable_est (g : Group) (s : State) : (raiseUnstable g s).est = s.est := by
  first | (unfold raiseUnstable; simp; done) | (unfold raiseUnstable; (try dsimp only); (repeat' split) <;> simp; done)
@[simp] theorem raiseUnstable_drive (g : Group) (s : State) : (raiseUnstable g s).drive = s.drive := by
  first | (unfold raiseUnstable; simp; done) | (unfold raiseUnstable; (try dsimp only); (repeat' split) <;> simp; done)
@[simp] theorem raiseUnstable_ring (g : Group) (s : State) : (raiseUnstable g s).ring = s.ring := by
  first | (unfold raiseUnstable; simp; done) | (unfold raiseUnstable; (try dsimp only); (repeat' split) <;> simp; done)
@[simp] theorem raiseUnstable_seq (g : Group) (s : State) : (raiseUnstable g s).seq = s.seq := by
  first | (unfold raiseUnstable; simp; done) | (unfold raiseUnstable; (try dsimp only); (repeat' split) <;> simp; done)
@[simp] theorem raiseUnstable_reg (g : Group) (s : State) : (raiseUnstable g s).reg = s.reg := by
  first | (unfold raiseUnstable; simp; done) | (unfold raiseUnstable; (try dsimp only); (repeat' split) <;> simp; done)
@[simp] theorem raiseUnstable_sup (g : Group) (s : State) : (raiseUnstable g s).sup = s.sup := by
  first | (unfold raiseUnstable; simp; done) | (unfold raiseUnstable; (try dsimp only); (repeat' split) <;> simp; done)
@[simp] theorem raiseUnstable_planner (g : Group) (s : State) : (raiseUnstable g s).planner = s.planner := by
  first | (unfold raiseUnstable; simp; done) | (unfold raiseUnstable; (try dsimp only); (repeat' split) <;> simp; done)

/-! ## `noteCycle` -/

@[simp] theorem noteCycle_fixed (g : Group) (o : CycleOutcome) (q : Quality) (s : State) : (noteCycle g o q s).fixed = s.fixed := by
  first | (unfold noteCycle; simp; done) | (unfold noteCycle; (try dsimp only); (repeat' split) <;> simp; done)
@[simp] theorem noteCycle_topo (g : Group) (o : CycleOutcome) (q : Quality) (s : State) : (noteCycle g o q s).topo = s.topo := by
  first | (unfold noteCycle; simp; done) | (unfold noteCycle; (try dsimp only); (repeat' split) <;> simp; done)
@[simp] theorem noteCycle_drive (g : Group) (o : CycleOutcome) (q : Quality) (s : State) : (noteCycle g o q s).drive = s.drive := by
  first | (unfold noteCycle; simp; done) | (unfold noteCycle; (try dsimp only); (repeat' split) <;> simp; done)
@[simp] theorem noteCycle_events (g : Group) (o : CycleOutcome) (q : Quality) (s : State) : (noteCycle g o q s).events = s.events := by
  first | (unfold noteCycle; simp; done) | (unfold noteCycle; (try dsimp only); (repeat' split) <;> simp; done)
@[simp] theorem noteCycle_ring (g : Group) (o : CycleOutcome) (q : Quality) (s : State) : (noteCycle g o q s).ring = s.ring := by
  first | (unfold noteCycle; simp; done) | (unfold noteCycle; (try dsimp only); (repeat' split) <;> simp; done)
@[simp] theorem noteCycle_seq (g : Group) (o : CycleOutcome) (q : Quality) (s : State) : (noteCycle g o q s).seq = s.seq := by
  first | (unfold noteCycle; simp; done) | (unfold noteCycle; (try dsimp only); (repeat' split) <;> simp; done)
@[simp] theorem noteCycle_reg (g : Group) (o : CycleOutcome) (q : Quality) (s : State) : (noteCycle g o q s).reg = s.reg := by
  first | (unfold noteCycle; simp; done) | (unfold noteCycle; (try dsimp only); (repeat' split) <;> simp; done)
@[simp] theorem noteCycle_sup (g : Group) (o : CycleOutcome) (q : Quality) (s : State) : (noteCycle g o q s).sup = s.sup := by
  first | (unfold noteCycle; simp; done) | (unfold noteCycle; (try dsimp only); (repeat' split) <;> simp; done)
@[simp] theorem noteCycle_planner (g : Group) (o : CycleOutcome) (q : Quality) (s : State) : (noteCycle g o q s).planner = s.planner := by
  first | (unfold noteCycle; simp; done) | (unfold noteCycle; (try dsimp only); (repeat' split) <;> simp; done)

/-! ## `acceptCycle` -/

@[simp] theorem acceptCycle_fixed (g : Group) (k : Capture) (r : CycleResult) (q : Quality) (s : State) : (acceptCycle g k r q s).fixed = s.fixed := by
  first | (unfold acceptCycle; simp; done) | (unfold acceptCycle; (try dsimp only); (repeat' split) <;> simp; done)
@[simp] theorem acceptCycle_topo (g : Group) (k : Capture) (r : CycleResult) (q : Quality) (s : State) : (acceptCycle g k r q s).topo = s.topo := by
  first | (unfold acceptCycle; simp; done) | (unfold acceptCycle; (try dsimp only); (repeat' split) <;> simp; done)
@[simp] theorem acceptCycle_seq_injector (g : Group) (k : Capture) (r : CycleResult) (q : Quality) (s : State) : (acceptCycle g k r q s).seq.injector = s.seq.injector := by
  first | (unfold acceptCycle; simp; done) | (unfold acceptCycle; (try dsimp only); (repeat' split) <;> simp; done)
@[simp] theorem acceptCycle_sup (g : Group) (k : Capture) (r : CycleResult) (q : Quality) (s : State) : (acceptCycle g k r q s).sup = s.sup := by
  first | (unfold acceptCycle; simp; done) | (unfold acceptCycle; (try dsimp only); (repeat' split) <;> simp; done)

/-! ## `rejectCycle` -/

@[simp] theorem rejectCycle_fixed (g : Group) (k : Capture) (q : Quality) (s : State) : (rejectCycle g k q s).fixed = s.fixed := by
  first | (unfold rejectCycle; simp; done) | (unfold rejectCycle; (try dsimp only); (repeat' split) <;> simp; done)
@[simp] theorem rejectCycle_topo (g : Group) (k : Capture) (q : Quality) (s : State) : (rejectCycle g k q s).topo = s.topo := by
  first | (unfold rejectCycle; simp; done) | (unfold rejectCycle; (try dsimp only); (repeat' split) <;> simp; done)
@[simp] theorem rejectCycle_drive (g : Group) (k : Capture) (q : Quality) (s : State) : (rejectCycle g k q s).drive = s.drive := by
  first | (unfold rejectCycle; simp; done) | (unfold rejectCycle; (try dsimp only); (repeat' split) <;> simp; done)
@[simp] theorem rejectCycle_events (g : Group) (k : Capture) (q : Quality) (s : State) : (rejectCycle g k q s).events = s.events := by
  first | (unfold rejectCycle; simp; done) | (unfold rejectCycle; (try dsimp only); (repeat' split) <;> simp; done)
@[simp] theorem rejectCycle_seq (g : Group) (k : Capture) (q : Quality) (s : State) : (rejectCycle g k q s).seq = s.seq := by
  first | (unfold rejectCycle; simp; done) | (unfold rejectCycle; (try dsimp only); (repeat' split) <;> simp; done)
@[simp] theorem rejectCycle_reg (g : Group) (k : Capture) (q : Quality) (s : State) : (rejectCycle g k q s).reg = s.reg := by
  first | (unfold rejectCycle; simp; done) | (unfold rejectCycle; (try dsimp only); (repeat' split) <;> simp; done)
@[simp] theorem rejectCycle_sup (g : Group) (k : Capture) (q : Quality) (s : State) : (rejectCycle g k q s).sup = s.sup := by
  first | (unfold rejectCycle; simp; done) | (unfold rejectCycle; (try dsimp only); (repeat' split) <;> simp; done)
@[simp] theorem rejectCycle_planner (g : Group) (k : Capture) (q : Quality) (s : State) : (rejectCycle g k q s).planner = s.planner := by
  first | (unfold rejectCycle; simp; done) | (unfold rejectCycle; (try dsimp only); (repeat' split) <;> simp; done)

/-! ## `endCycle` -/

@[simp] theorem endCycle_fixed (g : Group) (k : Capture) (s : State) : (endCycle g k s).fixed = s.fixed := by
  first | (unfold endCycle; simp; done) | (unfold endCycle; (try dsimp only); (repeat' split) <;> simp; done)
@[simp] theorem endCycle_topo (g : Group) (k : Capture) (s : State) : (endCycle g k s).topo = s.topo := by
  first | (unfold endCycle; simp; done) | (unfold endCycle; (try dsimp only); (repeat' split) <;> simp; done)
@[simp] theorem endCycle_sup (g : Group) (k : Capture) (s : State) : (endCycle g k s).sup = s.sup := by
  first | (unfold endCycle; simp; done) | (unfold endCycle; (try dsimp only); (repeat' split) <;> simp; done)

/-! ## `progress` -/

@[simp] theorem progress_fixed (g : Group) (x : CycleState) (k : Capture) (s : State) : (progress g x k s).fixed = s.fixed := by
  first | (unfold progress; simp; done) | (unfold progress; (try dsimp only); (repeat' split) <;> simp; done)
@[simp] theorem progress_topo (g : Group) (x : CycleState) (k : Capture) (s : State) : (progress g x k s).topo = s.topo := by
  first | (unfold progress; simp; done) | (unfold progress; (try dsimp only); (repeat' split) <;> simp; done)
@[simp] theorem progress_est (g : Group) (x : CycleState) (k : Capture) (s : State) : (progress g x k s).est = s.est := by
  first | (unfold progress; simp; done) | (unfold progress; (try dsimp only); (repeat' split) <;> simp; done)
@[simp] theorem progress_drive (g : Group) (x : CycleState) (k : Capture) (s : State) : (progress g x k s).drive = s.drive := by
  first | (unfold progress; simp; done) | (unfold progress; (try dsimp only); (repeat' split) <;> simp; done)
@[simp] theorem progress_events (g : Group) (x : CycleState) (k : Capture) (s : State) : (progress g x k s).events = s.events := by
  first | (unfold progress; simp; done) | (unfold progress; (try dsimp only); (repeat' split) <;> simp; done)
@[simp] theorem progress_ring (g : Group) (x : CycleState) (k : Capture) (s : State) : (progress g x k s).ring = s.ring := by
  first | (unfold progress; simp; done) | (unfold progress; (try dsimp only); (repeat' split) <;> simp; done)
@[simp] theorem progress_seq_injector (g : Group) (x : CycleState) (k : Capture) (s : State) : (progress g x k s).seq.injector = s.seq.injector := by
  first | (unfold progress; simp; done) | (unfold progress; (try dsimp only); (repeat' split) <;> simp; done)
@[simp] theorem progress_reg (g : Group) (x : CycleState) (k : Capture) (s : State) : (progress g x k s).reg = s.reg := by
  first | (unfold progress; simp; done) | (unfold progress; (try dsimp only); (repeat' split) <;> simp; done)
@[simp] theorem progress_sup (g : Group) (x : CycleState) (k : Capture) (s : State) : (progress g x k s).sup = s.sup := by
  first | (unfold progress; simp; done) | (unfold progress; (try dsimp only); (repeat' split) <;> simp; done)
@[simp] theorem progress_planner (g : Group) (x : CycleState) (k : Capture) (s : State) : (progress g x k s).planner = s.planner := by
  first | (unfold progress; simp; done) | (unfold progress; (try dsimp only); (repeat' split) <;> simp; done)

/-! ## `advance` -/

@[simp] theorem advance_fixed (g : Group) (x : CycleState) (k : Capture) (s : State) : (advance g x k s).fixed = s.fixed := by
  first | (unfold advance; simp; done) | (unfold advance; (try dsimp only); (repeat' split) <;> simp; done)
@[simp] theorem advance_topo (g : Group) (x : CycleState) (k : Capture) (s : State) : (advance g x k s).topo = s.topo := by
  first | (unfold advance; simp; done) | (unfold advance; (try dsimp only); (repeat' split) <;> simp; done)
@[simp] theorem advance_sup (g : Group) (x : CycleState) (k : Capture) (s : State) : (advance g x k s).sup = s.sup := by
  first | (unfold advance; simp; done) | (unfold advance; (try dsimp only); (repeat' split) <;> simp; done)

/-! ## `sequencerWork` -/

@[simp] theorem sequencerWork_fixed (g : Group) (s : State) : (sequencerWork g s).fixed = s.fixed := by
  first | (unfold sequencerWork; simp; done) | (unfold sequencerWork; (try dsimp only); (repeat' split) <;> simp; done)
@[simp] theorem sequencerWork_topo (g : Group) (s : State) : (sequencerWork g s).topo = s.topo := by
  first | (unfold sequencerWork; simp; done) | (unfold sequencerWork; (try dsimp only); (repeat' split) <;> simp; done)
@[simp] theorem sequencerWork_sup (g : Group) (s : State) : (sequencerWork g s).sup = s.sup := by
  first | (unfold sequencerWork; simp; done) | (unfold sequencerWork; (try dsimp only); (repeat' split) <;> simp; done)

/-! ## `raiseGroupChange` -/

@[simp] theorem raiseGroupChange_fixed (old new : Topology) (g : Group) (s : State) : (raiseGroupChange old new g s).fixed = s.fixed := by
  rfl
@[simp] theorem raiseGroupChange_topo (old new : Topology) (g : Group) (s : State) : (raiseGroupChange old new g s).topo = s.topo := by
  rfl
@[simp] theorem raiseGroupChange_est (old new : Topology) (g : Group) (s : State) : (raiseGroupChange old new g s).est = s.est := by
  rfl
@[simp] theorem raiseGroupChange_drive (old new : Topology) (g : Group) (s : State) : (raiseGroupChange old new g s).drive = s.drive := by
  rfl
@[simp] theorem raiseGroupChange_ring (old new : Topology) (g : Group) (s : State) : (raiseGroupChange old new g s).ring = s.ring := by
  rfl
@[simp] theorem raiseGroupChange_seq (old new : Topology) (g : Group) (s : State) : (raiseGroupChange old new g s).seq = s.seq := by
  rfl
@[simp] theorem raiseGroupChange_reg (old new : Topology) (g : Group) (s : State) : (raiseGroupChange old new g s).reg = s.reg := by
  rfl
@[simp] theorem raiseGroupChange_sup (old new : Topology) (g : Group) (s : State) : (raiseGroupChange old new g s).sup = s.sup := by
  rfl
@[simp] theorem raiseGroupChange_planner (old new : Topology) (g : Group) (s : State) : (raiseGroupChange old new g s).planner = s.planner := by
  rfl

/-! ## `abortLead` -/

@[simp] theorem abortLead_fixed (c : Coil) (s : State) : (abortLead c s).fixed = s.fixed := by
  unfold abortLead; exact forEach_keeps (fun s => s.fixed) _ (fun x s => by (try dsimp only); (repeat' split) <;> simp) _ _
@[simp] theorem abortLead_topo (c : Coil) (s : State) : (abortLead c s).topo = s.topo := by
  unfold abortLead; exact forEach_keeps (fun s => s.topo) _ (fun x s => by (try dsimp only); (repeat' split) <;> simp) _ _
@[simp] theorem abortLead_drive (c : Coil) (s : State) : (abortLead c s).drive = s.drive := by
  unfold abortLead; exact forEach_keeps (fun s => s.drive) _ (fun x s => by (try dsimp only); (repeat' split) <;> simp) _ _
@[simp] theorem abortLead_reg (c : Coil) (s : State) : (abortLead c s).reg = s.reg := by
  unfold abortLead; exact forEach_keeps (fun s => s.reg) _ (fun x s => by (try dsimp only); (repeat' split) <;> simp) _ _
@[simp] theorem abortLead_sup (c : Coil) (s : State) : (abortLead c s).sup = s.sup := by
  unfold abortLead; exact forEach_keeps (fun s => s.sup) _ (fun x s => by (try dsimp only); (repeat' split) <;> simp) _ _
@[simp] theorem abortLead_planner (c : Coil) (s : State) : (abortLead c s).planner = s.planner := by
  unfold abortLead; exact forEach_keeps (fun s => s.planner) _ (fun x s => by (try dsimp only); (repeat' split) <;> simp) _ _

/-! ## `injectorAvailability` -/

@[simp] theorem injectorAvailability_fixed (c : Coil) (s : State) : (injectorAvailability c s).fixed = s.fixed := by
  unfold injectorAvailability; dsimp only; split
  · rfl
  · split
    · exact (raiseInjector_fixed _ _ _).trans ((fixed_with_topo _ _).trans (by simp))
    · exact (abortLead_fixed _ _).trans ((raiseInjector_fixed _ _ _).trans ((fixed_with_topo _ _).trans (by simp)))
@[simp] theorem injectorAvailability_drive (c : Coil) (s : State) : (injectorAvailability c s).drive = s.drive := by
  first | (unfold injectorAvailability; simp; done) | (unfold injectorAvailability; (try dsimp only); (repeat' split) <;> simp; done)
@[simp] theorem injectorAvailability_reg (c : Coil) (s : State) : (injectorAvailability c s).reg = s.reg := by
  first | (unfold injectorAvailability; simp; done) | (unfold injectorAvailability; (try dsimp only); (repeat' split) <;> simp; done)
@[simp] theorem injectorAvailability_sup (c : Coil) (s : State) : (injectorAvailability c s).sup = s.sup := by
  first | (unfold injectorAvailability; simp; done) | (unfold injectorAvailability; (try dsimp only); (repeat' split) <;> simp; done)
@[simp] theorem injectorAvailability_planner (c : Coil) (s : State) : (injectorAvailability c s).planner = s.planner := by
  first | (unfold injectorAvailability; simp; done) | (unfold injectorAvailability; (try dsimp only); (repeat' split) <;> simp; done)

/-! ## `machineUse` -/

@[simp] theorem machineUse_fixed (old new : Topology) (s : State) : (machineUse old new s).fixed = s.fixed := by
  unfold machineUse; exact (forEach_keeps (fun s => s.fixed) _ (fun x s => by simp) _ _).trans (forEach_keeps (fun s => s.fixed) _ (fun x s => by simp) _ _)
@[simp] theorem machineUse_topo (old new : Topology) (s : State) : (machineUse old new s).topo = s.topo := by
  unfold machineUse; exact (forEach_keeps (fun s => s.topo) _ (fun x s => by simp) _ _).trans (forEach_keeps (fun s => s.topo) _ (fun x s => by simp) _ _)
@[simp] theorem machineUse_est (old new : Topology) (s : State) : (machineUse old new s).est = s.est := by
  unfold machineUse; exact (forEach_keeps (fun s => s.est) _ (fun x s => by simp) _ _).trans (forEach_keeps (fun s => s.est) _ (fun x s => by simp) _ _)
@[simp] theorem machineUse_drive (old new : Topology) (s : State) : (machineUse old new s).drive = s.drive := by
  unfold machineUse; exact (forEach_keeps (fun s => s.drive) _ (fun x s => by simp) _ _).trans (forEach_keeps (fun s => s.drive) _ (fun x s => by simp) _ _)
@[simp] theorem machineUse_events (old new : Topology) (s : State) : (machineUse old new s).events = s.events := by
  unfold machineUse; exact (forEach_keeps (fun s => s.events) _ (fun x s => by simp) _ _).trans (forEach_keeps (fun s => s.events) _ (fun x s => by simp) _ _)
@[simp] theorem machineUse_ring (old new : Topology) (s : State) : (machineUse old new s).ring = s.ring := by
  unfold machineUse; exact (forEach_keeps (fun s => s.ring) _ (fun x s => by simp) _ _).trans (forEach_keeps (fun s => s.ring) _ (fun x s => by simp) _ _)
@[simp] theorem machineUse_seq_injector (old new : Topology) (s : State) : (machineUse old new s).seq.injector = s.seq.injector := by
  unfold machineUse; exact (forEach_keeps (fun s => s.seq.injector) _ (fun x s => by simp) _ _).trans (forEach_keeps (fun s => s.seq.injector) _ (fun x s => by simp) _ _)
@[simp] theorem machineUse_reg (old new : Topology) (s : State) : (machineUse old new s).reg = s.reg := by
  unfold machineUse; exact (forEach_keeps (fun s => s.reg) _ (fun x s => by simp) _ _).trans (forEach_keeps (fun s => s.reg) _ (fun x s => by simp) _ _)
@[simp] theorem machineUse_sup (old new : Topology) (s : State) : (machineUse old new s).sup = s.sup := by
  unfold machineUse; exact (forEach_keeps (fun s => s.sup) _ (fun x s => by simp) _ _).trans (forEach_keeps (fun s => s.sup) _ (fun x s => by simp) _ _)
@[simp] theorem machineUse_planner (old new : Topology) (s : State) : (machineUse old new s).planner = s.planner := by
  unfold machineUse; exact (forEach_keeps (fun s => s.planner) _ (fun x s => by simp) _ _).trans (forEach_keeps (fun s => s.planner) _ (fun x s => by simp) _ _)

/-! ## `sequencerChange` -/

@[simp] theorem sequencerChange_fixed (old new : Topology) (s : State) : (sequencerChange old new s).fixed = s.fixed := by
  unfold sequencerChange; dsimp only; exact ((rfl).trans ((forEach_keeps (fun s => s.fixed) _ (fun x s => switchTrigger_fixed x s) _ _).trans ((forEach_keeps (fun s => s.fixed) _ (fun x s => injectorAvailability_fixed x s) _ _).trans ((machineUse_fixed old new _).trans ((forEach_keeps (fun s => s.fixed) _ (fun x s => abortCycle_fixed x _ s) _ _).trans (forEach_keeps (fun s => s.fixed) _ (fun x s => abortCycle_fixed x _ s) _ _))))))
@[simp] theorem sequencerChange_drive (old new : Topology) (s : State) : (sequencerChange old new s).drive = s.drive := by
  unfold sequencerChange; dsimp only; exact ((rfl).trans ((forEach_keeps (fun s => s.drive) _ (fun x s => switchTrigger_drive x s) _ _).trans ((forEach_keeps (fun s => s.drive) _ (fun x s => injectorAvailability_drive x s) _ _).trans ((machineUse_drive old new _).trans ((forEach_keeps (fun s => s.drive) _ (fun x s => abortCycle_drive x _ s) _ _).trans (forEach_keeps (fun s => s.drive) _ (fun x s => abortCycle_drive x _ s) _ _))))))
@[simp] theorem sequencerChange_reg (old new : Topology) (s : State) : (sequencerChange old new s).reg = s.reg := by
  unfold sequencerChange; dsimp only; exact ((rfl).trans ((forEach_keeps (fun s => s.reg) _ (fun x s => switchTrigger_reg x s) _ _).trans ((forEach_keeps (fun s => s.reg) _ (fun x s => injectorAvailability_reg x s) _ _).trans ((machineUse_reg old new _).trans ((forEach_keeps (fun s => s.reg) _ (fun x s => abortCycle_reg x _ s) _ _).trans (forEach_keeps (fun s => s.reg) _ (fun x s => abortCycle_reg x _ s) _ _))))))
@[simp] theorem sequencerChange_sup (old new : Topology) (s : State) : (sequencerChange old new s).sup = s.sup := by
  unfold sequencerChange; dsimp only; exact ((rfl).trans ((forEach_keeps (fun s => s.sup) _ (fun x s => switchTrigger_sup x s) _ _).trans ((forEach_keeps (fun s => s.sup) _ (fun x s => injectorAvailability_sup x s) _ _).trans ((machineUse_sup old new _).trans ((forEach_keeps (fun s => s.sup) _ (fun x s => abortCycle_sup x _ s) _ _).trans (forEach_keeps (fun s => s.sup) _ (fun x s => abortCycle_sup x _ s) _ _))))))
@[simp] theorem sequencerChange_planner (old new : Topology) (s : State) : (sequencerChange old new s).planner = s.planner := by
  unfold sequencerChange; dsimp only; exact ((rfl).trans ((forEach_keeps (fun s => s.planner) _ (fun x s => switchTrigger_planner x s) _ _).trans ((forEach_keeps (fun s => s.planner) _ (fun x s => injectorAvailability_planner x s) _ _).trans ((machineUse_planner old new _).trans ((forEach_keeps (fun s => s.planner) _ (fun x s => abortCycle_planner x _ s) _ _).trans (forEach_keeps (fun s => s.planner) _ (fun x s => abortCycle_planner x _ s) _ _))))))

/-! ## `raiseStaleChange` -/

@[simp] theorem raiseStaleChange_fixed (g : Group) (a b : Bool) (s : State) : (raiseStaleChange g a b s).fixed = s.fixed := by
  unfold raiseStaleChange; split
  · simp
  · split <;> simp
@[simp] theorem raiseStaleChange_topo (g : Group) (a b : Bool) (s : State) : (raiseStaleChange g a b s).topo = s.topo := by
  unfold raiseStaleChange; split
  · simp
  · split <;> simp
@[simp] theorem raiseStaleChange_est (g : Group) (a b : Bool) (s : State) : (raiseStaleChange g a b s).est = s.est := by
  unfold raiseStaleChange; split
  · simp
  · split <;> simp
@[simp] theorem raiseStaleChange_drive (g : Group) (a b : Bool) (s : State) : (raiseStaleChange g a b s).drive = s.drive := by
  unfold raiseStaleChange; split
  · simp
  · split <;> simp
@[simp] theorem raiseStaleChange_ring (g : Group) (a b : Bool) (s : State) : (raiseStaleChange g a b s).ring = s.ring := by
  unfold raiseStaleChange; split
  · simp
  · split <;> simp
@[simp] theorem raiseStaleChange_seq (g : Group) (a b : Bool) (s : State) : (raiseStaleChange g a b s).seq = s.seq := by
  unfold raiseStaleChange; split
  · simp
  · split <;> simp
@[simp] theorem raiseStaleChange_reg (g : Group) (a b : Bool) (s : State) : (raiseStaleChange g a b s).reg = s.reg := by
  unfold raiseStaleChange; split
  · simp
  · split <;> simp
@[simp] theorem raiseStaleChange_sup (g : Group) (a b : Bool) (s : State) : (raiseStaleChange g a b s).sup = s.sup := by
  unfold raiseStaleChange; split
  · simp
  · split <;> simp
@[simp] theorem raiseStaleChange_planner (g : Group) (a b : Bool) (s : State) : (raiseStaleChange g a b s).planner = s.planner := by
  unfold raiseStaleChange; split
  · simp
  · split <;> simp

/-! ## `mergeRecords` -/

@[simp] theorem mergeRecords_fixed (a b : Group) (s : State) : (mergeRecords a b s).fixed = s.fixed := by
  unfold mergeRecords; simp
@[simp] theorem mergeRecords_topo (a b : Group) (s : State) : (mergeRecords a b s).topo = s.topo := by
  unfold mergeRecords; simp
@[simp] theorem mergeRecords_drive (a b : Group) (s : State) : (mergeRecords a b s).drive = s.drive := by
  unfold mergeRecords; simp
@[simp] theorem mergeRecords_ring (a b : Group) (s : State) : (mergeRecords a b s).ring = s.ring := by
  unfold mergeRecords; simp
@[simp] theorem mergeRecords_seq (a b : Group) (s : State) : (mergeRecords a b s).seq = s.seq := by
  unfold mergeRecords; simp
@[simp] theorem mergeRecords_reg (a b : Group) (s : State) : (mergeRecords a b s).reg = s.reg := by
  unfold mergeRecords; simp
@[simp] theorem mergeRecords_sup (a b : Group) (s : State) : (mergeRecords a b s).sup = s.sup := by
  unfold mergeRecords; simp
@[simp] theorem mergeRecords_planner (a b : Group) (s : State) : (mergeRecords a b s).planner = s.planner := by
  unfold mergeRecords; simp

/-! ## `splitRecords` -/

@[simp] theorem splitRecords_fixed (new : Topology) (a b : Group) (s : State) : (splitRecords new a b s).fixed = s.fixed := by
  unfold splitRecords; simp
@[simp] theorem splitRecords_topo (new : Topology) (a b : Group) (s : State) : (splitRecords new a b s).topo = s.topo := by
  unfold splitRecords; simp
@[simp] theorem splitRecords_drive (new : Topology) (a b : Group) (s : State) : (splitRecords new a b s).drive = s.drive := by
  unfold splitRecords; simp
@[simp] theorem splitRecords_ring (new : Topology) (a b : Group) (s : State) : (splitRecords new a b s).ring = s.ring := by
  unfold splitRecords; simp
@[simp] theorem splitRecords_seq (new : Topology) (a b : Group) (s : State) : (splitRecords new a b s).seq = s.seq := by
  unfold splitRecords; simp
@[simp] theorem splitRecords_reg (new : Topology) (a b : Group) (s : State) : (splitRecords new a b s).reg = s.reg := by
  unfold splitRecords; simp
@[simp] theorem splitRecords_sup (new : Topology) (a b : Group) (s : State) : (splitRecords new a b s).sup = s.sup := by
  unfold splitRecords; simp
@[simp] theorem splitRecords_planner (new : Topology) (a b : Group) (s : State) : (splitRecords new a b s).planner = s.planner := by
  unfold splitRecords; simp

/-! ## `markMembership` -/

@[simp] theorem markMembership_fixed (g : Group) (s : State) : (markMembership g s).fixed = s.fixed := by
  rfl
@[simp] theorem markMembership_topo (g : Group) (s : State) : (markMembership g s).topo = s.topo := by
  rfl
@[simp] theorem markMembership_drive (g : Group) (s : State) : (markMembership g s).drive = s.drive := by
  rfl
@[simp] theorem markMembership_events (g : Group) (s : State) : (markMembership g s).events = s.events := by
  rfl
@[simp] theorem markMembership_ring (g : Group) (s : State) : (markMembership g s).ring = s.ring := by
  rfl
@[simp] theorem markMembership_seq (g : Group) (s : State) : (markMembership g s).seq = s.seq := by
  rfl
@[simp] theorem markMembership_reg (g : Group) (s : State) : (markMembership g s).reg = s.reg := by
  rfl
@[simp] theorem markMembership_sup (g : Group) (s : State) : (markMembership g s).sup = s.sup := by
  rfl
@[simp] theorem markMembership_planner (g : Group) (s : State) : (markMembership g s).planner = s.planner := by
  rfl

/-! ## `recordChange` -/

@[simp] theorem recordChange_fixed (old new : Topology) (s : State) : (recordChange old new s).fixed = s.fixed := by
  unfold recordChange; refine forEach_keeps (fun s => s.fixed) _ (fun x s => ?_) _ _; (repeat' split) <;> simp
@[simp] theorem recordChange_topo (old new : Topology) (s : State) : (recordChange old new s).topo = s.topo := by
  unfold recordChange; refine forEach_keeps (fun s => s.topo) _ (fun x s => ?_) _ _; (repeat' split) <;> simp
@[simp] theorem recordChange_drive (old new : Topology) (s : State) : (recordChange old new s).drive = s.drive := by
  unfold recordChange; refine forEach_keeps (fun s => s.drive) _ (fun x s => ?_) _ _; (repeat' split) <;> simp
@[simp] theorem recordChange_ring (old new : Topology) (s : State) : (recordChange old new s).ring = s.ring := by
  unfold recordChange; refine forEach_keeps (fun s => s.ring) _ (fun x s => ?_) _ _; (repeat' split) <;> simp
@[simp] theorem recordChange_seq (old new : Topology) (s : State) : (recordChange old new s).seq = s.seq := by
  unfold recordChange; refine forEach_keeps (fun s => s.seq) _ (fun x s => ?_) _ _; (repeat' split) <;> simp
@[simp] theorem recordChange_reg (old new : Topology) (s : State) : (recordChange old new s).reg = s.reg := by
  unfold recordChange; refine forEach_keeps (fun s => s.reg) _ (fun x s => ?_) _ _; (repeat' split) <;> simp
@[simp] theorem recordChange_sup (old new : Topology) (s : State) : (recordChange old new s).sup = s.sup := by
  unfold recordChange; refine forEach_keeps (fun s => s.sup) _ (fun x s => ?_) _ _; (repeat' split) <;> simp
@[simp] theorem recordChange_planner (old new : Topology) (s : State) : (recordChange old new s).planner = s.planner := by
  unfold recordChange; refine forEach_keeps (fun s => s.planner) _ (fun x s => ?_) _ _; (repeat' split) <;> simp

/-! ## `naturalChange` -/

@[simp] theorem naturalChange_fixed (old new : Topology) (b : Vector Estimate 4) (g : Group) (s : State) : (naturalChange old new b g s).fixed = s.fixed := by
  rfl
@[simp] theorem naturalChange_topo (old new : Topology) (b : Vector Estimate 4) (g : Group) (s : State) : (naturalChange old new b g s).topo = s.topo := by
  rfl
@[simp] theorem naturalChange_drive (old new : Topology) (b : Vector Estimate 4) (g : Group) (s : State) : (naturalChange old new b g s).drive = s.drive := by
  rfl
@[simp] theorem naturalChange_events (old new : Topology) (b : Vector Estimate 4) (g : Group) (s : State) : (naturalChange old new b g s).events = s.events := by
  rfl
@[simp] theorem naturalChange_ring (old new : Topology) (b : Vector Estimate 4) (g : Group) (s : State) : (naturalChange old new b g s).ring = s.ring := by
  rfl
@[simp] theorem naturalChange_seq (old new : Topology) (b : Vector Estimate 4) (g : Group) (s : State) : (naturalChange old new b g s).seq = s.seq := by
  rfl
@[simp] theorem naturalChange_reg (old new : Topology) (b : Vector Estimate 4) (g : Group) (s : State) : (naturalChange old new b g s).reg = s.reg := by
  rfl
@[simp] theorem naturalChange_sup (old new : Topology) (b : Vector Estimate 4) (g : Group) (s : State) : (naturalChange old new b g s).sup = s.sup := by
  rfl
@[simp] theorem naturalChange_planner (old new : Topology) (b : Vector Estimate 4) (g : Group) (s : State) : (naturalChange old new b g s).planner = s.planner := by
  rfl

/-! ## `estimatorChange` -/

@[simp] theorem estimatorChange_fixed (old new : Topology) (s : State) : (estimatorChange old new s).fixed = s.fixed := by
  unfold estimatorChange; exact ((forEach_keeps (fun s => s.fixed) _ (fun x s => naturalChange_fixed old new _ x s) _ _).trans (recordChange_fixed old new s))
@[simp] theorem estimatorChange_topo (old new : Topology) (s : State) : (estimatorChange old new s).topo = s.topo := by
  unfold estimatorChange; exact ((forEach_keeps (fun s => s.topo) _ (fun x s => naturalChange_topo old new _ x s) _ _).trans (recordChange_topo old new s))
@[simp] theorem estimatorChange_drive (old new : Topology) (s : State) : (estimatorChange old new s).drive = s.drive := by
  unfold estimatorChange; exact ((forEach_keeps (fun s => s.drive) _ (fun x s => naturalChange_drive old new _ x s) _ _).trans (recordChange_drive old new s))
@[simp] theorem estimatorChange_ring (old new : Topology) (s : State) : (estimatorChange old new s).ring = s.ring := by
  unfold estimatorChange; exact ((forEach_keeps (fun s => s.ring) _ (fun x s => naturalChange_ring old new _ x s) _ _).trans (recordChange_ring old new s))
@[simp] theorem estimatorChange_seq (old new : Topology) (s : State) : (estimatorChange old new s).seq = s.seq := by
  unfold estimatorChange; exact ((forEach_keeps (fun s => s.seq) _ (fun x s => naturalChange_seq old new _ x s) _ _).trans (recordChange_seq old new s))
@[simp] theorem estimatorChange_reg (old new : Topology) (s : State) : (estimatorChange old new s).reg = s.reg := by
  unfold estimatorChange; exact ((forEach_keeps (fun s => s.reg) _ (fun x s => naturalChange_reg old new _ x s) _ _).trans (recordChange_reg old new s))
@[simp] theorem estimatorChange_sup (old new : Topology) (s : State) : (estimatorChange old new s).sup = s.sup := by
  unfold estimatorChange; exact ((forEach_keeps (fun s => s.sup) _ (fun x s => naturalChange_sup old new _ x s) _ _).trans (recordChange_sup old new s))
@[simp] theorem estimatorChange_planner (old new : Topology) (s : State) : (estimatorChange old new s).planner = s.planner := by
  unfold estimatorChange; exact ((forEach_keeps (fun s => s.planner) _ (fun x s => naturalChange_planner old new _ x s) _ _).trans (recordChange_planner old new s))

/-! ## `listChange` -/

@[simp] theorem listChange_fixed (old new : Topology) (b : Vector TransitionList 4) (g : Group) (s : State) : (listChange old new b g s).fixed = s.fixed := by
  unfold listChange; split <;> rfl
@[simp] theorem listChange_topo (old new : Topology) (b : Vector TransitionList 4) (g : Group) (s : State) : (listChange old new b g s).topo = s.topo := by
  unfold listChange; split <;> rfl
@[simp] theorem listChange_est (old new : Topology) (b : Vector TransitionList 4) (g : Group) (s : State) : (listChange old new b g s).est = s.est := by
  unfold listChange; split <;> rfl
@[simp] theorem listChange_drive (old new : Topology) (b : Vector TransitionList 4) (g : Group) (s : State) : (listChange old new b g s).drive = s.drive := by
  unfold listChange; split <;> rfl
@[simp] theorem listChange_events (old new : Topology) (b : Vector TransitionList 4) (g : Group) (s : State) : (listChange old new b g s).events = s.events := by
  unfold listChange; split <;> rfl
@[simp] theorem listChange_ring (old new : Topology) (b : Vector TransitionList 4) (g : Group) (s : State) : (listChange old new b g s).ring = s.ring := by
  unfold listChange; split <;> rfl
@[simp] theorem listChange_seq (old new : Topology) (b : Vector TransitionList 4) (g : Group) (s : State) : (listChange old new b g s).seq = s.seq := by
  unfold listChange; split <;> rfl
@[simp] theorem listChange_sup (old new : Topology) (b : Vector TransitionList 4) (g : Group) (s : State) : (listChange old new b g s).sup = s.sup := by
  unfold listChange; split <;> rfl
@[simp] theorem listChange_planner (old new : Topology) (b : Vector TransitionList 4) (g : Group) (s : State) : (listChange old new b g s).planner = s.planner := by
  unfold listChange; split <;> rfl

/-! ## `registerChange` -/

@[simp] theorem registerChange_fixed (old new : Topology) (s : State) : (registerChange old new s).fixed = s.fixed := by
  unfold registerChange; exact forEach_keeps (fun s => s.fixed) _ (fun x s => listChange_fixed old new _ x s) _ _
@[simp] theorem registerChange_topo (old new : Topology) (s : State) : (registerChange old new s).topo = s.topo := by
  unfold registerChange; exact forEach_keeps (fun s => s.topo) _ (fun x s => listChange_topo old new _ x s) _ _
@[simp] theorem registerChange_est (old new : Topology) (s : State) : (registerChange old new s).est = s.est := by
  unfold registerChange; exact forEach_keeps (fun s => s.est) _ (fun x s => listChange_est old new _ x s) _ _
@[simp] theorem registerChange_drive (old new : Topology) (s : State) : (registerChange old new s).drive = s.drive := by
  unfold registerChange; exact forEach_keeps (fun s => s.drive) _ (fun x s => listChange_drive old new _ x s) _ _
@[simp] theorem registerChange_events (old new : Topology) (s : State) : (registerChange old new s).events = s.events := by
  unfold registerChange; exact forEach_keeps (fun s => s.events) _ (fun x s => listChange_events old new _ x s) _ _
@[simp] theorem registerChange_ring (old new : Topology) (s : State) : (registerChange old new s).ring = s.ring := by
  unfold registerChange; exact forEach_keeps (fun s => s.ring) _ (fun x s => listChange_ring old new _ x s) _ _
@[simp] theorem registerChange_seq (old new : Topology) (s : State) : (registerChange old new s).seq = s.seq := by
  unfold registerChange; exact forEach_keeps (fun s => s.seq) _ (fun x s => listChange_seq old new _ x s) _ _
@[simp] theorem registerChange_sup (old new : Topology) (s : State) : (registerChange old new s).sup = s.sup := by
  unfold registerChange; exact forEach_keeps (fun s => s.sup) _ (fun x s => listChange_sup old new _ x s) _ _
@[simp] theorem registerChange_planner (old new : Topology) (s : State) : (registerChange old new s).planner = s.planner := by
  unfold registerChange; exact forEach_keeps (fun s => s.planner) _ (fun x s => listChange_planner old new _ x s) _ _

/-! ## `holdChange` -/

@[simp] theorem holdChange_fixed (old new : Topology) (b : Vector Timer 4) (g : Group) (s : State) : (holdChange old new b g s).fixed = s.fixed := by
  rfl
@[simp] theorem holdChange_topo (old new : Topology) (b : Vector Timer 4) (g : Group) (s : State) : (holdChange old new b g s).topo = s.topo := by
  rfl
@[simp] theorem holdChange_est (old new : Topology) (b : Vector Timer 4) (g : Group) (s : State) : (holdChange old new b g s).est = s.est := by
  rfl
@[simp] theorem holdChange_drive (old new : Topology) (b : Vector Timer 4) (g : Group) (s : State) : (holdChange old new b g s).drive = s.drive := by
  rfl
@[simp] theorem holdChange_events (old new : Topology) (b : Vector Timer 4) (g : Group) (s : State) : (holdChange old new b g s).events = s.events := by
  rfl
@[simp] theorem holdChange_ring (old new : Topology) (b : Vector Timer 4) (g : Group) (s : State) : (holdChange old new b g s).ring = s.ring := by
  rfl
@[simp] theorem holdChange_seq (old new : Topology) (b : Vector Timer 4) (g : Group) (s : State) : (holdChange old new b g s).seq = s.seq := by
  rfl
@[simp] theorem holdChange_reg (old new : Topology) (b : Vector Timer 4) (g : Group) (s : State) : (holdChange old new b g s).reg = s.reg := by
  rfl
@[simp] theorem holdChange_planner (old new : Topology) (b : Vector Timer 4) (g : Group) (s : State) : (holdChange old new b g s).planner = s.planner := by
  rfl

/-! ## `conditionChange` -/

@[simp] theorem conditionChange_fixed (g : Group) (s : State) : (conditionChange g s).fixed = s.fixed := by
  unfold conditionChange; dsimp only; split <;> simp
@[simp] theorem conditionChange_topo (g : Group) (s : State) : (conditionChange g s).topo = s.topo := by
  unfold conditionChange; dsimp only; split <;> simp
@[simp] theorem conditionChange_ring (g : Group) (s : State) : (conditionChange g s).ring = s.ring := by
  unfold conditionChange; dsimp only; split <;> simp
@[simp] theorem conditionChange_reg (g : Group) (s : State) : (conditionChange g s).reg = s.reg := by
  unfold conditionChange; dsimp only; split <;> simp
@[simp] theorem conditionChange_sup (g : Group) (s : State) : (conditionChange g s).sup = s.sup := by
  unfold conditionChange; dsimp only; split <;> simp
@[simp] theorem conditionChange_planner (g : Group) (s : State) : (conditionChange g s).planner = s.planner := by
  unfold conditionChange; dsimp only; split <;> simp

/-! ## `supervisorChange` -/

@[simp] theorem supervisorChange_fixed (old new : Topology) (s : State) : (supervisorChange old new s).fixed = s.fixed := by
  unfold supervisorChange; exact ((forEach_keeps (fun s => s.fixed) _ (fun x s => conditionChange_fixed x s) _ _).trans ((forEach_keeps (fun s => s.fixed) _ (fun x s => (rfl : (State.setHold x none s).fixed = s.fixed)) _ _).trans (forEach_keeps (fun s => s.fixed) _ (fun x s => holdChange_fixed old new _ x s) _ _)))
@[simp] theorem supervisorChange_topo (old new : Topology) (s : State) : (supervisorChange old new s).topo = s.topo := by
  unfold supervisorChange; exact ((forEach_keeps (fun s => s.topo) _ (fun x s => conditionChange_topo x s) _ _).trans ((forEach_keeps (fun s => s.topo) _ (fun x s => (rfl : (State.setHold x none s).topo = s.topo)) _ _).trans (forEach_keeps (fun s => s.topo) _ (fun x s => holdChange_topo old new _ x s) _ _)))
@[simp] theorem supervisorChange_ring (old new : Topology) (s : State) : (supervisorChange old new s).ring = s.ring := by
  unfold supervisorChange; exact ((forEach_keeps (fun s => s.ring) _ (fun x s => conditionChange_ring x s) _ _).trans ((forEach_keeps (fun s => s.ring) _ (fun x s => (rfl : (State.setHold x none s).ring = s.ring)) _ _).trans (forEach_keeps (fun s => s.ring) _ (fun x s => holdChange_ring old new _ x s) _ _)))
@[simp] theorem supervisorChange_reg (old new : Topology) (s : State) : (supervisorChange old new s).reg = s.reg := by
  unfold supervisorChange; exact ((forEach_keeps (fun s => s.reg) _ (fun x s => conditionChange_reg x s) _ _).trans ((forEach_keeps (fun s => s.reg) _ (fun x s => (rfl : (State.setHold x none s).reg = s.reg)) _ _).trans (forEach_keeps (fun s => s.reg) _ (fun x s => holdChange_reg old new _ x s) _ _)))
@[simp] theorem supervisorChange_planner (old new : Topology) (s : State) : (supervisorChange old new s).planner = s.planner := by
  unfold supervisorChange; exact ((forEach_keeps (fun s => s.planner) _ (fun x s => conditionChange_planner x s) _ _).trans ((forEach_keeps (fun s => s.planner) _ (fun x s => (rfl : (State.setHold x none s).planner = s.planner)) _ _).trans (forEach_keeps (fun s => s.planner) _ (fun x s => holdChange_planner old new _ x s) _ _)))

/-! ## `driveChange` -/

@[simp] theorem driveChange_fixed (old new : Topology) (c : Coil) (s : State) : (driveChange old new c s).fixed = s.fixed := by
  unfold driveChange; dsimp only; split
  · split <;> simp
  · simp
@[simp] theorem driveChange_topo (old new : Topology) (c : Coil) (s : State) : (driveChange old new c s).topo = s.topo := by
  unfold driveChange; dsimp only; split
  · split <;> simp
  · simp
@[simp] theorem driveChange_est (old new : Topology) (c : Coil) (s : State) : (driveChange old new c s).est = s.est := by
  unfold driveChange; dsimp only; split
  · split <;> simp
  · simp
@[simp] theorem driveChange_ring (old new : Topology) (c : Coil) (s : State) : (driveChange old new c s).ring = s.ring := by
  unfold driveChange; dsimp only; split
  · split <;> simp
  · simp
@[simp] theorem driveChange_reg (old new : Topology) (c : Coil) (s : State) : (driveChange old new c s).reg = s.reg := by
  unfold driveChange; dsimp only; split
  · split <;> simp
  · simp
@[simp] theorem driveChange_sup (old new : Topology) (c : Coil) (s : State) : (driveChange old new c s).sup = s.sup := by
  unfold driveChange; dsimp only; split
  · split <;> simp
  · simp
@[simp] theorem driveChange_planner (old new : Topology) (c : Coil) (s : State) : (driveChange old new c s).planner = s.planner := by
  unfold driveChange; dsimp only; split
  · split <;> simp
  · simp

/-! ## `changeTopology` -/

@[simp] theorem changeTopology_fixed (f : Topology → Topology) (s : State) : (changeTopology f s).fixed = s.fixed := by
  unfold changeTopology; exact ((forEach_keeps (fun s => s.fixed) _ (fun x s => planGroup_fixed x s) _ _).trans ((forEach_keeps (fun s => s.fixed) _ (fun x s => driveChange_fixed _ _ x s) _ _).trans ((forEach_keeps (fun s => s.fixed) _ (fun x s => (rfl : (s.setPlan x PlanRecord.reset).fixed = s.fixed)) _ _).trans ((forEach_keeps (fun s => s.fixed) _ (fun x s => retirePlan_fixed x s) _ _).trans ((supervisorChange_fixed _ _ _).trans ((registerChange_fixed _ _ _).trans ((estimatorChange_fixed _ _ _).trans ((sequencerChange_fixed _ _ _).trans ((forEach_keeps (fun s => s.fixed) _ (fun x s => raiseGroupChange_fixed _ _ x s) _ _).trans (rfl))))))))))

/-! ## `setMode` -/

@[simp] theorem setMode_fixed (c : Coil) (m : CoilMode) (s : State) : (setMode c m s).fixed = s.fixed := by
  exact changeTopology_fixed _ s

/-! ## `setCoupler` -/

@[simp] theorem setCoupler_fixed (k : Coupler) (x : CouplerState) (s : State) : (setCoupler k x s).fixed = s.fixed := by
  unfold setCoupler; split
  · rfl
  · exact changeTopology_fixed _ s

/-! ## `parkCoil` -/

@[simp] theorem parkCoil_fixed (c : Coil) (s : State) : (parkCoil c s).fixed = s.fixed := by
  unfold parkCoil; (repeat' split) <;> first | rfl | exact setMode_fixed _ _ s

/-! ## `releaseCoil` -/

@[simp] theorem releaseCoil_fixed (c : Coil) (s : State) : (releaseCoil c s).fixed = s.fixed := by
  unfold releaseCoil; (repeat' split) <;> first | rfl | exact setMode_fixed _ _ s

end Sys2Proof.Machine
end

