-- ==== Sys2Proof/Laws/Events.lean ====
section
/-! SUPPORT. The arrivals of events of one moment as a list, which kinds the drives and a planning raise, and what a
switching trigger does. -/

namespace Sys2Proof.Machine

@[simp] theorem afterEvents_nil (s : State) : afterEvents [] s = s.events := rfl

theorem afterEvents_cons (e : Event) (es : List Event) (s : State) :
    afterEvents (e :: es) s = afterEvents es { s with events := afterEvent e.1 e.2.1 e.2.2 s } := rfl

/-- Arrivals after arrivals: the later ones act on the unit the earlier ones left, at the same time. -/
theorem afterEvents_append (es fs : List Event) (s : State) :
    afterEvents (es ++ fs) s = afterEvents fs { s with events := afterEvents es s } := List.foldl_append

theorem raiseEvent_events (k : EventKind) (subject : Option Nat) (values : List (Option Int)) (s : State) :
    (raiseEvent k subject values s).events = afterEvents [(k, subject, values)] s := rfl

/-- An operation that leads from `s` to `t` raises events of the kinds `p` only, all at the time of `s`. -/
def Raises (p : EventKind → Prop) (s t : State) : Prop :=
  t.time = s.time ∧ ∃ later : List Event, t.events = afterEvents later s ∧ ∀ e ∈ later, p e.1

/-- What leaves the event unit and the time alone raises nothing. -/
theorem Raises.of_eq {p : EventKind → Prop} {s t : State} (ht : t.time = s.time) (he : t.events = s.events) : Raises p s t :=
  ⟨ht, [], he, fun _ h => nomatch h⟩

theorem Raises.refl (p : EventKind → Prop) (s : State) : Raises p s s := .of_eq rfl rfl

theorem Raises.raise {p : EventKind → Prop} {k : EventKind} (h : p k) (subject : Option Nat) (values : List (Option Int)) (s : State) :
    Raises p s (raiseEvent k subject values s) :=
  ⟨rfl, [(k, subject, values)], rfl, fun e he => by simp only [List.mem_singleton] at he; subst he; exact h⟩

theorem Raises.mono {p q : EventKind → Prop} {s t : State} (h : Raises p s t) (hpq : ∀ k, p k → q k) : Raises q s t :=
  ⟨h.1, h.2.choose, h.2.choose_spec.1, fun e he => hpq _ (h.2.choose_spec.2 e he)⟩

/-- One operation after another raises the events of both, in this order. -/
theorem Raises.trans {p : EventKind → Prop} {s t u : State} (h : Raises p s t) (g : Raises p t u) : Raises p s u := by
  obtain ⟨ht, es, he, hp⟩ := h
  obtain ⟨gt, fs, ge, gp⟩ := g
  refine ⟨gt.trans ht, es ++ fs, ?_, fun e hm => (List.mem_append.mp hm).elim (hp e) (gp e)⟩
  rw [ge, afterEvents_append]
  unfold afterEvents at he ⊢
  rw [he, ht]

/-- A list of operations each of which raises events of the kinds `p` only. -/
theorem Raises.forEach {α : Type} {p : EventKind → Prop} {f : α → State → State} (h : ∀ x s, Raises p s (f x s)) (xs : List α)
    (s : State) : Raises p s (forEach xs f s) := by
  unfold Machine.forEach
  induction xs generalizing s with
  | nil => exact .refl p s
  | cons x xs ih => exact (h x s).trans (ih (f x s))

/-! ## The drives and the planner -/

theorem Raises.setDrive (p : EventKind → Prop) (c : Coil) (d : Drive) (s : State) : Raises p s (s.setDrive c d) := .of_eq rfl rfl

theorem time_of_fixed {s t : State} (h : t.fixed = s.fixed) : t.time = s.time := congrArg Fixed.time h

theorem finishMove_raises (c : Coil) (r : MoveOutcome) (t : Target) (x : Bool) (s : State) :
    Raises (· = .moveDone) s (finishMove c r t x s) :=
  ⟨time_of_fixed (by simp), [(.moveDone, some c.val, [val r.code, value (s.drive[c]).position, val t.pos, val t.origin.code])],
    by simp [finishMove, afterEvents, raiseEvent], by simp⟩

theorem endCoast_raises (c : Coil) (s : State) : Raises (· = .moveDone) s (endCoast c s) := by
  unfold endCoast
  dsimp only
  split
  · exact finishMove_raises ..
  · exact .refl _ _

theorem enterStopping_raises (c : Coil) (r : StopReason) (s : State) : Raises (· = .moveDone) s (enterStopping c r s) := by
  unfold enterStopping
  dsimp only
  split
  · exact (Raises.setDrive _ c _ s).trans (endCoast_raises ..)
  · exact .setDrive _ c _ s

theorem testStop_raises (c : Coil) (s : State) : Raises (· = .moveDone) s (testStop c s) := by
  unfold testStop
  split
  · exact enterStopping_raises ..
  · exact .refl _ _

theorem interruptDrives_raises (g : Group) (s : State) : Raises (· = .moveDone) s (interruptDrives g s) :=
  .forEach (fun c s => by
    unfold stopIfRunning
    split
    · exact enterStopping_raises ..
    · exact .refl _ _) _ _

/-- A start of origin AUTO aborts no cycle. -/
theorem startMove_raises (c : Coil) (t : Target) (h : t.origin = .auto) (s : State) :
    Raises (· = .moveDone) s (startMove c t s) := by
  unfold startMove
  split
  · exact .refl _ _
  · dsimp only
    split
    · exact (Raises.setDrive _ c _ s).trans (finishMove_raises ..)
    · split
      · exact (Raises.setDrive _ c _ s).trans (finishMove_raises ..)
      · rw [if_neg (by simp [h])]
        refine (Raises.setDrive _ c { s.drive[c] with pending := none, running := some t } s).trans (.of_eq ?_ (beginRun_events ..))
        exact time_of_fixed (beginRun_fixed ..)

theorem takeTarget_raises (c : Coil) (t : Target) (h : t.origin = .auto) (s : State) :
    Raises (· = .moveDone) s (takeTarget c t s) := by
  unfold takeTarget
  dsimp only
  split
  · exact (Raises.setDrive _ c _ s).trans (startMove_raises c t h _)
  · exact .setDrive _ c _ s

theorem newTarget_raises (c : Coil) (t : Target) (h : t.origin = .auto) (s : State) :
    Raises (· = .moveDone) s (newTarget c t s) := by
  unfold newTarget
  dsimp only
  split
  · split
    · exact .refl _ _
    · exact takeTarget_raises c t h s
    · exact takeTarget_raises c t h s
    · exact .setDrive _ c _ s
    all_goals
      split
      · exact .refl _ _
      · split
        · exact (Raises.setDrive _ c _ s).trans (testStop_raises ..)
        · exact (Raises.setDrive _ c _ s).trans (enterStopping_raises ..)
  · exact .refl _ _

theorem raiseRangeLimit_raises (g : Group) (old : RangeLimit) (r : PlanRecord) (s : State) :
    Raises (· = .rangeLimit) s (raiseRangeLimit g old r s) := by
  unfold raiseRangeLimit
  split
  · exact .refl _ _
  · exact .raise (p := (· = .rangeLimit)) rfl _ _ _

theorem handPlan_raises (g : Group) (r : PlanRecord) (s : State) : Raises (· = .moveDone) s (handPlan g r s) := by
  unfold handPlan
  split
  · refine .forEach (fun a s => ?_) _ _
    split
    · exact newTarget_raises a.coil ⟨a.pos, .auto⟩ rfl s
    · exact .of_eq (time_of_fixed (by simp)) (by simp)
  · exact .forEach (fun m s => .of_eq (time_of_fixed (by simp)) (by simp)) _ _

/-- A planning raises RANGE_LIMIT, and MOVE_DONE of moves that end as they are handed (R109, R111, R127). -/
theorem planGroup_raises (g : Group) (s : State) :
    Raises (fun k => k = .moveDone ∨ k = .rangeLimit) s (planGroup g s) := by
  unfold planGroup
  dsimp only
  split
  · have h : Raises (fun k => k = .moveDone ∨ k = .rangeLimit) s (s.setPlan g (formPlan s g)) := .of_eq rfl rfl
    exact h.trans (((raiseRangeLimit_raises ..).mono fun _ x => .inr x).trans ((handPlan_raises ..).mono fun _ x => .inl x))
  · exact .refl _ _

/-! ## The switching trigger (R45) -/

/-- A switching trigger of a part that has left STARTING writes the one machine. -/
theorem switchTrigger_eq (g : Group) (s : State) (h : s.runState ≠ .starting) :
    switchTrigger g s = s.setMachine g (switched s.settings.tSwitch s.seq.machine[g]) := by
  unfold switchTrigger
  rw [if_neg h]
  split <;> rename_i ht
  · simp [switched, ht, setFlag, h, State.setMachine, CycleMachine.triggered, flagged]
  · simp [switched, ht, secondsTimer]

/-- A second switching trigger of the same moment changes nothing more. -/
@[simp] theorem switched_switched (n : Nat) (m : CycleMachine) : switched n (switched n m) = switched n m := by
  obtain ⟨st, _, _, _, _, _⟩ := m
  by_cases h : n = 0
  · cases st <;> simp [switched, flagged, h]
  · simp [switched, h]

end Sys2Proof.Machine
end

