-- ==== Sys2Proof/Laws/Link.lean ====
section
/-! SUPPORT. What serving a request does, said once: every refusal and every effect reaches the part through `serve`. -/

namespace Sys2Proof.Machine

/-- With an ANSWERED slot just added the transmitter, when free, begins a reply; it never begins a notice frame (R180). -/
theorem answer_eq (kind tag : Nat) (st : Status) (result : List Byte) (s : State) :
    answer kind tag st result s = withReply kind tag st result s := by
  unfold answer withReply transmitNext
  cases h : s.link.tx <;> simp [h, Link.replyWaiting, Slot.isAnswered]

/-- A free slot, as the condition `serve` tests. -/
theorem full_eq_false {s : State} (h : s.link.slots.length < 2) : s.link.full = false := by
  unfold Link.full Config.slotCount
  simp; omega

/-- A request that the part can take (R172, R173): the effect when the status takes it, and one reply. -/
theorem serve_free {s : State} (h : s.link.slots.length < 2) (kind tag : Nat) (st : Status) (effect : State → State)
    (result : State → List Byte) :
    serve kind tag st effect result s =
      withReply kind tag st (if st.hasResult then result (if st.taken then effect s else s) else [])
        (if st.taken then effect s else s) := by
  unfold serve
  rw [full_eq_false h]
  simp [answer_eq]

/-- A request that finds both slots held is discarded (R172). -/
theorem serve_full {s : State} (h : 2 ≤ s.link.slots.length) (kind tag : Nat) (st : Status) (effect : State → State)
    (result : State → List Byte) : serve kind tag st effect result s = s := by
  unfold serve Link.full Config.slotCount
  simp [h]

/-- A request answered OK. -/
theorem serve_ok {s : State} (h : s.link.slots.length < 2) (kind tag : Nat) (effect : State → State)
    (result : State → List Byte) :
    serve kind tag .ok effect result s = withReply kind tag .ok (result (effect s)) (effect s) := by
  rw [serve_free h]; rfl

/-- A request answered CLAMPED. -/
theorem serve_clamped {s : State} (h : s.link.slots.length < 2) (kind tag : Nat) (effect : State → State)
    (result : State → List Byte) :
    serve kind tag .clamped effect result s = withReply kind tag .clamped (result (effect s)) (effect s) := by
  rw [serve_free h]; rfl

/-- A request refused with a status that carries a result: nothing changes but the reply. -/
theorem serve_refused {s : State} (h : s.link.slots.length < 2) (kind tag : Nat) (st : Status) (effect : State → State)
    (result : State → List Byte) (ht : st.taken = false) (hr : st.hasResult = true) :
    serve kind tag st effect result s = withReply kind tag st (result s) s := by
  rw [serve_free h]; simp [ht, hr]

/-- A request refused with a status that carries no result. -/
theorem serve_bare {s : State} (h : s.link.slots.length < 2) (kind tag : Nat) (st : Status) (effect : State → State)
    (result : State → List Byte) (ht : st.taken = false) (hr : st.hasResult = false) :
    serve kind tag st effect result s = withReply kind tag st [] s := by
  rw [serve_free h]; simp [ht, hr]

/-- In SETUP and RUN the checks after NOT_READY decide (R173). -/
theorem whenReady_of_ready {s : State} (h : s.runState ≠ .starting) (st : Status) : whenReady s st = st := by
  unfold whenReady; simp [h]

/-- In STARTING the answer is NOT_READY (R173). -/
theorem whenReady_of_starting {s : State} (h : s.runState = .starting) (st : Status) :
    whenReady s st = .notReady .starting := by
  unfold whenReady; simp [h]

/-! ## The fields a reply leaves alone -/

@[simp] theorem withReply_runState (k t : Nat) (st : Status) (r : List Byte) (s : State) :
    (withReply k t st r s).runState = s.runState := rfl
@[simp] theorem withReply_time (k t : Nat) (st : Status) (r : List Byte) (s : State) : (withReply k t st r s).time = s.time := rfl
@[simp] theorem withReply_settings (k t : Nat) (st : Status) (r : List Byte) (s : State) :
    (withReply k t st r s).settings = s.settings := rfl
@[simp] theorem withReply_acq (k t : Nat) (st : Status) (r : List Byte) (s : State) : (withReply k t st r s).acq = s.acq := rfl
@[simp] theorem withReply_tracker (k t : Nat) (st : Status) (r : List Byte) (s : State) :
    (withReply k t st r s).tracker = s.tracker := rfl
@[simp] theorem withReply_topo (k t : Nat) (st : Status) (r : List Byte) (s : State) : (withReply k t st r s).topo = s.topo := rfl
@[simp] theorem withReply_seq (k t : Nat) (st : Status) (r : List Byte) (s : State) : (withReply k t st r s).seq = s.seq := rfl
@[simp] theorem withReply_est (k t : Nat) (st : Status) (r : List Byte) (s : State) : (withReply k t st r s).est = s.est := rfl
@[simp] theorem withReply_reg (k t : Nat) (st : Status) (r : List Byte) (s : State) : (withReply k t st r s).reg = s.reg := rfl
@[simp] theorem withReply_planner (k t : Nat) (st : Status) (r : List Byte) (s : State) :
    (withReply k t st r s).planner = s.planner := rfl
@[simp] theorem withReply_drive (k t : Nat) (st : Status) (r : List Byte) (s : State) : (withReply k t st r s).drive = s.drive := rfl
@[simp] theorem withReply_sup (k t : Nat) (st : Status) (r : List Byte) (s : State) : (withReply k t st r s).sup = s.sup := rfl
@[simp] theorem withReply_contacts (k t : Nat) (st : Status) (r : List Byte) (s : State) :
    (withReply k t st r s).contacts = s.contacts := rfl
@[simp] theorem withReply_events (k t : Nat) (st : Status) (r : List Byte) (s : State) :
    (withReply k t st r s).events = s.events := rfl
@[simp] theorem withReply_ring (k t : Nat) (st : Status) (r : List Byte) (s : State) : (withReply k t st r s).ring = s.ring := rfl
@[simp] theorem withReply_pending (k t : Nat) (st : Status) (r : List Byte) (s : State) :
    (withReply k t st r s).pending = s.pending := rfl
@[simp] theorem withReply_load (k t : Nat) (st : Status) (r : List Byte) (s : State) :
    (withReply k t st r s).link.load = s.link.load := rfl

end Sys2Proof.Machine
end

