-- ==== Sys2Proof/Laws/Sizes.lean ====
section
/-! SUPPORT. The sizes of the fields and records of the link (R181), and the capacities that the appending operations keep (R92,
R187, R190). -/

namespace Sys2Proof

/-- A field of `n` bytes has `n` bytes. -/
@[simp] theorem be_length (n v : Nat) : (be n v).length = n := by induction n generalizing v <;> simp [be, *]

end Sys2Proof

namespace Sys2Proof.Machine

@[simp] theorem unsigned_length (n v : Nat) : (unsigned n v).length = n := by unfold unsigned; split <;> simp
@[simp] theorem signed_length (n : Nat) (v : Int) : (signed n v).length = n := by unfold signed; split <;> simp
@[simp] theorem valueFields_length (n : Nat) (vs : List (Option Int)) : (valueFields n vs).length = 4 * n := by
  induction n generalizing vs <;> cases vs <;> simp [valueFields, *] <;> omega
@[simp] theorem phasorField_length (p : Phasor) : (phasorField p).length = 4 := by simp [phasorField]
@[simp] theorem optPhasor_length (p : Option Phasor) : (optPhasor p).length = 4 := by simp [optPhasor]
@[simp] theorem current_length (n : Nat) : (current n).length = 2 := by simp [current]
@[simp] theorem optCurrent_length (n : Option Nat) : (optCurrent n).length = 2 := by simp [optCurrent]
@[simp] theorem partTime_length (n : Nat) : (partTime n).length = 6 := by simp [partTime]
@[simp] theorem optCode_length (n : Option Nat) : (optCode n).length = 1 := by simp [optCode]
@[simp] theorem byte1_length (n : Nat) : (byte1 n).length = 1 := by simp [byte1]
@[simp] theorem targetField_length (t : Option Target) : (targetField t).length = 3 := by simp [targetField]

/-- A history entry is 60 bytes (R181). -/
theorem historyEntry_length (r : HistoryRecord) : (historyEntry r).length = 60 := by
  unfold historyEntry
  simp only [List.length_append]
  simp only [be_length, byte1_length, optPhasor_length, current_length, optCurrent_length, partTime_length, optCode_length, signed_length]

/-- A fault log entry is 32 bytes (R181). -/
theorem episodeEntry_length (e : EpisodeRecord) : (episodeEntry e).length = 32 := by
  unfold episodeEntry
  simp only [List.length_append]
  simp only [be_length, byte1_length, optCurrent_length, partTime_length, signed_length, List.length_flatMap, List.map_const', Vector.length_toList,
    List.sum_replicate_nat]

/-- A notice is 27 bytes (R181). -/
theorem noticeEntry_length (n : Notice) : (noticeEntry n).length = 27 := by simp [noticeEntry]

/-- The result of READ_ESTIMATE is 66 bytes (R181). -/
theorem estimateResult_length (g : Group) (s : State) : (estimateResult g s).length = 66 := by
  unfold estimateResult
  simp only [List.length_append]
  simp only [be_length, byte1_length, optCurrent_length, current_length, partTime_length, optCode_length, signed_length, unsigned_length]

/-- The result of READ_COIL is 53 bytes (R181). -/
theorem coilResult_length (c : Coil) (s : State) : (coilResult c s).length = 53 := by
  unfold coilResult
  simp only [List.length_append]
  simp only [be_length, byte1_length, optCurrent_length, partTime_length, optCode_length, unsigned_length, targetField_length]

/-! ## Capacities -/

@[simp] theorem latch_queue (k : EventKind) (u : EventUnit) : (u.latch k).queue = u.queue := rfl

/-- An arrival keeps a queue of at most 32 (R187). -/
theorem arrive_capacity {k : EventKind} {subject : Option Nat} {values : List (Option Int)} {time : Nat} {u : EventUnit}
    (h : u.queue.length ≤ Config.queueCapacity) : (u.arrive k subject values time).queue.length ≤ Config.queueCapacity := by
  unfold EventUnit.arrive EventUnit.enqueue
  split
  · simpa using h
  · split
    · rename_i hlt
      simp only [latch_queue] at hlt
      simp; omega
    · simpa using h

/-- An append keeps a ring of at most 64 (R190). -/
theorem append_capacity {r : HistoryRecord} {h : HistoryRing} (hl : h.records.length ≤ Config.ringCapacity) :
    (h.append r).records.length ≤ Config.ringCapacity := by
  unfold HistoryRing.append Config.ringCapacity at *
  simp only
  split
  · simp
  · split <;> simp <;> omega

/-- An entry keeps a transition list of at most 8 (R92). -/
theorem enter_capacity {e : ListEntry} {l : TransitionList} (h : l.entries.length ≤ Config.listCapacity) :
    (l.enter e).entries.length ≤ Config.listCapacity := by
  unfold TransitionList.enter
  split
  · exact h
  · split
    · simp; omega
    · exact h

end Sys2Proof.Machine
end

