-- ==== Sys2Proof/Tests/Slice0.lean ====
section
/-! SUPPORT. The tests: one ill-formed command per check of WellFormed, the manual's worked cases, and for every statement with
hypotheses a theorem that shows states and operands which meet them, clause by clause. Every expected number is the manual's, or
computed by hand from its rule. -/

set_option maxRecDepth 8000

namespace Sys2Proof.Tests

open Sys2Proof Sys2Proof.Machine

/-! ## Small states -/

/-- The part in SETUP with every input debounced and inactive. -/
def ready : State :=
  { State.reset with
    runState := .setup
    contacts :=
      { State.reset.contacts with input := Vector.replicate 24 ⟨false, some false, none, 10, false, .nothing⟩, startTimer := none } }

/-- The same part in RUN. -/
def inRun : State := { ready with runState := .run }

/-- The plunger table of the allocation case (section 6.6). -/
def plungerTable : List Point := [⟨0, 5000⟩, ⟨1000, 8100⟩, ⟨1900, 10700⟩, ⟨2000, 11000⟩, ⟨3000, 14300⟩, ⟨4095, 20000⟩]

/-- The taps of the allocation case (section 6.6). -/
def tapTable : List Point :=
  [⟨1, 2000⟩, ⟨2, 2500⟩, ⟨3, 3000⟩, ⟨4, 3500⟩, ⟨5, 4000⟩, ⟨6, 4500⟩, ⟨7, 5000⟩, ⟨8, 5500⟩]

/-- The example substation (section 2.8, section 6.6) in RUN: coupler 0 CLOSED, the others OPEN, coil 0 a PLUNGER at 1900 and coil
1 a TAPPED coil at tap 4, both AUTO with an injector. -/
def station : State :=
  let s : State :=
    { inRun with
      topo := { inRun.topo with
        coupler := #v[.closed, .opened, .opened]
        coil := #v[⟨.plunger, 0, true, .auto⟩, ⟨.tapped, 1, true, .auto⟩, ⟨.plunger, 2, false, .absent⟩, ⟨.plunger, 3, false, .absent⟩] }
      seq := { inRun.seq with injector := #v[⟨true, 4, false, false, 4⟩, ⟨true, 4, false, false, 4⟩, Injector.reset, Injector.reset] }
      planner := { inRun.planner with table := #v[plungerTable, tapTable, [], []] }
      drive :=
        #v[{ Drive.reset with inputCode := 1900, inputValid := true, position := some 1900, feedback := true },
          { Drive.reset with inputCode := 4, inputValid := true, position := some 4, feedback := true }, Drive.reset, Drive.reset] }
  { s with topo := s.topo.recomputed (fun c => decide (c ≤ 1)) }

/-- The same station in SETUP. -/
def stationSetup : State := { station with runState := .setup }

/-- The station with one coil's drive replaced. -/
def withDrive (c : Coil) (d : Drive) : State := station.setDrive c d

/-- The station with one input's record replaced. -/
def withInput (i : ContactNo) (r : ContactInput) : State := station.setInput i r

/-- The estimate of the admittance case. -/
def validEstimate : Estimate := { Estimate.reset with state := .valid, value := some ⟨13799, 613⟩, age := some 1000 }

/-- The station with its estimate VALID (13799, 613). -/
def measured : State := station.setEst 0 validEstimate

/-- The next state of a command; the state itself where there is none. -/
def after (c : Instr) (s : State) : State :=
  match exec c s with
  | .next t => t
  | .fault _ => s
  | .refused _ => s

/-- The bytes of the newest reply between tag and check. -/
def reply (s : State) : List Nat :=
  match s.link.slots.getLast? with
  | some (.answered f) => ((f.drop 5).take (f.length - 7)).map BitVec.toNat
  | _ => []

/-- The station with a cycle of group 0 just started. -/
def cycling : State := after (.cycleStart 0) (measured.setMachine 0 ⟨.waiting, true, none, none, false, none⟩)

theorem test_station_keeps_the_laws :
    topologyLaw station = true ∧ availabilityLaw station = true ∧ tablesLaw station = true ∧ loadLaw station = true ∧
      capacityLaw station = true ∧ outputsLaw station = true ∧ restLaw station = true ∧ runningLaw station = true ∧
      machinesLaw station = true ∧ faultLogLaw station = true ∧ originLaw station = true ∧ useLaw station = true ∧
      heldLaw station = true ∧ injectorLaw station = true := by decide

theorem test_station_is_the_manuals_group :
    station.topo.groupOf = #v[0, 0, 2, 3] ∧ station.topo.group[(0 : Group)] = ⟨false, some 0, [0, 1]⟩ ∧
      groupCurrent station 0 = 14200 := by decide

/-! ## Well-formedness: one ill-formed command per check -/

theorem test_wf_refuses_a_wide_tag : (Instr.ident 256).wellFormed = false ∧ (Instr.ident 255).wellFormed = true := by decide
theorem test_wf_refuses_a_wide_time : (Instr.timeSet 0 (2 ^ 48)).wellFormed = false := by decide
theorem test_wf_refuses_a_wide_id : (Instr.set 0 65536 0 1).wellFormed = false := by decide
theorem test_wf_refuses_a_setting_of_another_row : (Instr.set 0 0x0050 0 1).wellFormed = false := by decide
theorem test_wf_refuses_a_wide_scope : (Instr.get 0 1 256).wellFormed = false := by decide
theorem test_wf_refuses_a_wide_value : (Instr.set 0 1 0 2147483648).wellFormed = false ∧ (Instr.set 0 1 0 (-2147483648)).wellFormed = true := by
  decide
theorem test_wf_refuses_a_wide_setpoint : (Instr.setpoint 0 0 32768).wellFormed = false := by decide
theorem test_wf_refuses_a_wide_index :
    (Instr.readCoil 0 256).wellFormed = false ∧ (Instr.feederSet 0 7 256).wellFormed = false ∧
      (Instr.coilMove 0 0 65536).wellFormed = false ∧ (Instr.couplerSet 0 256 0).wellFormed = false ∧
      (Instr.coilConfig 0 0 1 256 0 0).wellFormed = false ∧ (Instr.coilMode 0 0 256).wellFormed = false ∧
      (Instr.feederDefine 0 0 1 0 1 65536).wellFormed = false ∧ (Instr.tableOpen 0 0 256).wellFormed = false ∧
      (Instr.readHistory 0 (2 ^ 32) 1).wellFormed = false ∧ (Instr.noticeConfig 0 1 65536).wellFormed = false ∧
      (Instr.eventsClear 0 65536).wellFormed = false := by decide
theorem test_wf_refuses_a_wide_point : (Instr.tablePoints 0 [(65536, 0)]).wellFormed = false := by decide
theorem test_wf_refuses_a_kind_of_the_catalogue : (Instr.unknownKind 0 0x01).wellFormed = false ∧ (Instr.unknownKind 0 0x7F).wellFormed = true := by
  decide
theorem test_wf_refuses_a_short_cycle : (Instr.cycleBoundary [] false).wellFormed = false := by decide
theorem test_wf_refuses_a_wide_sample :
    (Instr.cycleBoundary (List.replicate 12 (List.replicate 64 32768)) false).wellFormed = false ∧
      (Instr.cycleBoundary (List.replicate 12 (List.replicate 64 32767)) false).wellFormed = true := by decide
theorem test_wf_refuses_an_empty_period : (Instr.zeroCrossing 0).wellFormed = false := by decide
theorem test_wf_refuses_a_wide_code : (Instr.positionReport 0 65536 true).wellFormed = false := by decide

theorem test_no_word_spells_a_command : decodeTableWord 16 0x1234 = none := rfl

/-! ## Worked cases of the manual -/

/-- The case of one channel through one cycle (section 1.2). -/
theorem test_scaling_and_referring :
    scaleExact 5461 ⟨1200, -700⟩ = ⟨1600, -933⟩ ∧ Phasor.referExact ⟨3000, 4000⟩ ⟨1600, -933⟩ = ⟨214, -1840⟩ ∧
      Phasor.referExact ⟨3000, 4000⟩ ⟨3000, 4000⟩ = ⟨5000, 0⟩ ∧ Phasor.magnitude ⟨1600, -933⟩ = 1852 ∧
      windowPhasor [⟨214, -1840⟩, ⟨216, -1838⟩, ⟨211, -1843⟩, ⟨215, -1841⟩] = ⟨214, -1841⟩ := by decide

/-- The cosine table (R4). -/
theorem test_cosine_table :
    cosineTable.length = 64 ∧ cosineTable[0]? = some 32767 ∧ cosineTable[16]? = some 0 ∧ cosineTable[32]? = some (-32767) ∧
      cosineTable[63]? = some 32609 ∧ sineTable[16]? = some 32767 := by decide

/-- The tracker after a source change (section 1.4): the fourth period of section 1 sets f_used and the count. -/
theorem test_fourth_period_sets_f_used :
    let s : State := { ready with tracker := ⟨some 1, [50000, 49951, 50053], some 0, 50000, 7680, false⟩ }
    (after (.zeroCrossing 491800) s).tracker = ⟨some 1, [50000, 49951, 50053, 49972], some 0, 49994, 7681, false⟩ := by decide

/-- The longest valid period of the same case, and its invalid period of 560000 counts. -/
theorem test_long_period_is_invalid :
    let s : State := { ready with tracker := ⟨some 1, [50000], some 0, 50000, 7680, false⟩ }
    (after (.zeroCrossing 560000) s).tracker = ⟨some 1, [], some 0, 50000, 7680, true⟩ ∧
      (after (.zeroCrossing 546134) s).tracker.held = true ∧ (after (.zeroCrossing 546133) s).tracker.history = [50000, 45000] := by
  decide

/-- The admittance of one cycle (section 4.2). -/
theorem test_admittance_of_one_cycle :
    cycleResult 30 14200 ⟨342, 238⟩ ⟨30, 1⟩ ⟨-328, -233⟩ ⟨-30, -1⟩ {} = (some ⟨⟨13799, 613⟩, ⟨7, 3⟩⟩, {}) := by decide

/-- Settling, blending and a step (section 4.4). -/
theorem test_settling_and_blending :
    meanOf ⟨13799, 613⟩ ⟨13798, 612⟩ = ⟨13799, 613⟩ ∧ blend 2 ⟨13799, 613⟩ ⟨13850, 621⟩ = ⟨13812, 615⟩ ∧
      meanOf ⟨13200, 600⟩ ⟨13150, 605⟩ = ⟨13175, 603⟩ ∧ blend 2 ⟨13799, 613⟩ ⟨13760, 610⟩ = ⟨13789, 612⟩ := by decide

/-- The outlier and the step of the same case. -/
theorem test_outlier_then_step :
    (foldResult 150 2 ⟨13200, 600⟩ validEstimate).outlier = true ∧
      (foldResult 150 2 ⟨13150, 605⟩ { validEstimate with candidate := some ⟨13200, 600⟩ }).est.value = some ⟨13175, 603⟩ := by decide

/-- A merge and a split (section 4.7). -/
theorem test_merge_and_split :
    (mergeEstimates { validEstimate with value := some ⟨13175, 603⟩ } { validEstimate with value := some ⟨4200, 150⟩ }).value =
        some ⟨17375, 753⟩ ∧
      (splitEstimates { validEstimate with value := some ⟨17375, 753⟩ } (some 9000) (some 3000)).1.value = some ⟨13031, 565⟩ ∧
      (splitEstimates { validEstimate with value := some ⟨17375, 753⟩ } (some 9000) (some 3000)).2.value = some ⟨4344, 188⟩ := by decide

/-- One feeder opens (chapter 5): the pre-tuned estimate, and the contribution learned by the confirming cycle. -/
theorem test_one_feeder_opens :
    (validEstimate.adjusted false 1250 false).value = some ⟨12549, 613⟩ ∧ learned (some 1250) 1189 = 1219 ∧
      learned none 870 = 870 := by decide

/-- FEEDER_SET in the example group: one entry, the estimate PROVISIONAL, the switching delay restarted. -/
theorem test_feeder_set_makes_a_transition :
    let s := measured.setFeeder 7 ⟨true, 1, .into, some 1250, 3, none⟩
    ((after (.feederSet 1 7 0) s).reg.list[(0 : Group)]).entries.map (fun e => (e.iCBefore, e.adjustment)) =
        [(some 13799, .preTuned 1250)] ∧
      ((after (.feederSet 1 7 0) s).est[(0 : Group)]).value = some ⟨12549, 613⟩ := by decide

/-- The allocation of the example group (section 6.6). -/
theorem test_allocation_of_the_example_group :
    (allocate 14489 [⟨0, .plunger, plungerTable⟩, ⟨1, .tapped, tapTable⟩]).1.map
        (fun p => (p.coil, p.share, p.pos, p.cur)) = [(0, 10989, 1996, 10988), (1, 3417, 4, 3500)] ∧
      (allocate 14489 [⟨0, .plunger, plungerTable⟩, ⟨1, .tapped, tapTable⟩]).2 = 0 := by decide

/-- Coil 0 held by hand, and the tie between taps (section 6.6). -/
theorem test_allocation_to_taps_alone :
    (allocate 3789 [⟨1, .tapped, tapTable⟩]).2 = -211 ∧ (allocate 3750 [⟨1, .tapped, tapTable⟩]).2 = 250 := by
  decide

/-- The planning of the allocation case: coil 0 receives 1996 and starts at once, coil 1 a withdrawal (R116, R123). -/
theorem test_planning_hands_the_targets :
    let s := planGroup 0 { measured with settings := { measured.settings with plungerTolerance := Vector.replicate 4 5 } }
    (s.planner.record[(0 : Group)]).outcome = .planned ∧ (s.planner.record[(0 : Group)]).raw = some 14489 ∧
      (s.drive[(0 : Coil)]).running = some ⟨1996, .auto⟩ ∧ (s.drive[(0 : Coil)]).state = .runningUp ∧
      (s.drive[(0 : Coil)]).pending = none ∧ (s.drive[(1 : Coil)]).state = .idle ∧
      (s.planner.record[(0 : Group)]).lastPlanned.map (fun e => (e.coil, e.pos)) = [(0, 1996), (1, 4)] := by decide

/-- One plunger move (section 7.10): the travel limit of 96 counts, the stop at 1991 for 1996, the result DONE. -/
theorem test_one_plunger_move :
    let s : State := { station with settings := { station.settings with plungerTolerance := Vector.replicate 4 5 } }
    let s := s.setDrive 0 { s.drive[(0 : Coil)] with state := .pending, pending := some ⟨1996, .auto⟩ }
    let a := after (.moveStart 0) s
    (a.drive[(0 : Coil)]).travel = some 9200 ∧ (a.drive[(0 : Coil)]).raiseOut = true ∧
      (let b := after (.positionReport 0 1991 true) a
       (b.drive[(0 : Coil)]).state = .stopping ∧ (b.drive[(0 : Coil)]).coast = some 1000 ∧
         ((after (.coastTimerExpiry 0) b).drive[(0 : Coil)]).last.map MoveResult.result = some .done) := by decide

/-- A report one count short of the stop, and one more than 8 counts below the best position (R128, R129). -/
theorem test_reports_short_of_the_stop :
    let s := withDrive 0 { station.drive[(0 : Coil)] with state := .runningUp, running := some ⟨2100, .auto⟩, best := some 1950 }
    ((after (.positionReport 0 2089 true) s).drive[(0 : Coil)]).best = some 2089 ∧
      ((after (.positionReport 0 1942 true) s).drive[(0 : Coil)]).best = some 1950 ∧
      ((after (.positionReport 0 1941 true) s).drive[(0 : Coil)]).state = .fault := by decide

/-- A false start (section 8.6): at 2150 the injector is off and section 0 is marked. -/
theorem test_crossing_marks_the_sections :
    let s : State := { cycling with acq := { cycling.acq with phasor := cycling.acq.phasor.set 0 ⟨2150, 0⟩ } }
    let t := supervisorWork s
    t.seq.decisions = [⟨0, [0]⟩] ∧ (t.sup.watch[(0 : Section)]).start = some ⟨0, 2150, 100⟩ ∧
      (t.seq.injector[(0 : Coil)]).enable = false ∧ t.ring.records.map HistoryRecord.outcome = [.abortedOvervoltage] := by decide

/-- A genuine episode (section 8.6): section 1's expiry opens episode 1 over both sections. -/
theorem test_a_genuine_episode :
    let s := (measured.setWatch 0 ⟨some ⟨600000, 6900, 0⟩, none, false⟩).setWatch 1 ⟨some ⟨600000, 7100, 0⟩, none, false⟩
    let t := after (.startDwellExpiry 1) s
    t.sup.log.map (fun e => (e.number, e.sections, e.start, e.peak, e.detuning)) = [(1, [0, 1], 600000, 7100, some 29)] ∧
      (t.est[(0 : Group)]).state = .frozen ∧ (t.est[(0 : Group)]).returnState = some .valid ∧
      (t.sup.watch[(0 : Section)]).start = none := by decide

/-- A double-point coupler (section 9.5): both contacts inactive hold the state; OPEN is delivered when input 6 is active. -/
theorem test_a_double_point_coupler :
    let s : State := { station with contacts := { station.contacts with indication := station.contacts.indication.set 0 ⟨.double, none⟩ } }
    let s := (s.setInput 5 ⟨false, some true, some 0, 10, false, .couplerClosed 0⟩).setInput 6
      ⟨true, some false, some 0, 10, false, .couplerOpen 0⟩
    let a := after (.debounceTimerExpiry 5) s
    (a.contacts.indication[(0 : Coupler)]).timer = some 500 ∧ a.topo.coupler[(0 : Coupler)] = .closed ∧
      (after (.debounceTimerExpiry 6) a).topo.coupler[(0 : Coupler)] = .opened ∧
      (after (.debounceTimerExpiry 6) a).topo.groupOf = #v[0, 1, 2, 3] := by decide

/-- Loading coil 0 (section 10.5): four points, a FULL write, an early commit, the rest. -/
theorem test_loading_coil_0 :
    let first : List (Nat × Nat) := [(0, 5000), (1000, 8100), (1900, 10700), (2000, 11000)]
    let a := after (.tablePoints 2 first) (after (.tableOpen 1 0 6) ready)
    reply { a with link := { a.link with slots := a.link.slots.take 2 } } = [0, 0, 6, 4] ∧
      (let free : State := { a with link := { a.link with slots := [] } }
       reply (after (.tablePoints 3 [(1, 1), (2, 2), (3, 3)]) free) = [12, 0, 6, 4] ∧
         reply (after (.tableCommit 4) free) = [10, 4, 0, 6, 4, 4]) := by decide

/-- Gathering notices (section 11.3): a masked kind queues nothing; the first notice starts the hold timer. -/
theorem test_gathering_notices :
    let s : State := { ready with events := { EventUnit.reset with mask := 0x0100, trigger := 4 } }
    let a := raiseEvent .inputChange (some 5) [] s
    a.events.queue = [] ∧ a.events.latched = 0x0100 ∧ (raiseEvent .groupChange (some 0) [] a).events.hold = .running 200 := by decide

/-- The check of a frame (R171): the nine digits give 0xAEE7 under the polynomial and start value of that rule, by hand. -/
theorem test_frame_check : frameCheck [0x31, 0x32, 0x33, 0x34, 0x35, 0x36, 0x37, 0x38, 0x39] = 0xAEE7 := by decide

/-! ## Requests, one small case each -/

theorem test_ident_reports_setup : reply (after (.ident 7) ready) = [0, 0x4F, 62, 1, 1, 0, 0, 0, 0, 0, 0, 0] := by decide
theorem test_read_before_debounce_is_not_ready : reply (after (.readInputs 7) State.reset) = [13, 1, 255] := by decide

/-! ## The hypotheses of the statements can be met

One theorem per statement with hypotheses, named after it: states and operands that meet the hypotheses, one line per clause, at the
boundaries of their ranges. -/

/-- A part in SETUP that holds one answered request: the last free slot. -/
def oneHeld : State := after (.ident 1) ready

theorem taking_ready : Taking ready := ⟨by decide, by decide⟩
theorem taking_oneHeld : Taking oneHeld := ⟨by decide, by decide⟩
theorem taking_inRun : Taking inRun := ⟨by decide, by decide⟩
theorem taking_station : Taking station := ⟨by decide, by decide⟩

theorem witness_IdlePartLetsOneMillisecondPass :
    let s := after .noticeFrame ready
    (s.pending = [] ∧ nextInternal s = none ∧ s.time < 2 ^ 48) ∧ nextInternal { s with time := 2 ^ 48 - 1 } = none ∧
      2 ^ 48 - 1 < 2 ^ 48 := by decide

theorem witness_IdentTimeSetAndReadsAnswer :
    (oneHeld.link.slots.length < 2 ∧ (Taking oneHeld ∧ 2 ^ 48 - 1 < 2 ^ 48) ∧
      State.reset.link.slots.length < 2 ∧ State.reset.runState = .starting) ∧
    (Taking oneHeld ∧ 0 < 1 ∧ 11 < SettingId.gain.scope ∧ 4 ≤ 4 ∧ 48 ≤ 48 ∧ oneHeld.runState ≠ .starting ∧
      SettingId.ofCode 0x0064 = none ∧ SettingId.ofCode 0x0003 = none) :=
  ⟨⟨by decide, ⟨taking_oneHeld, by decide⟩, by decide, by decide⟩,
    ⟨taking_oneHeld, by decide, by decide, by decide, by decide, by decide, by decide, by decide⟩⟩

theorem witness_SettingsHaveTheirTableAndReadBack :
    (SettingId.limits .gain ready).isSome = true ∧ 11 < SettingId.gain.scope ∧ (SettingId.gain, 0) ≠ (SettingId.gain, 11) ∧
      ¬ (SettingId.gain = .uStart ∧ SettingId.gain = .uEnd) := by decide

theorem witness_SetWritesRefusesAndRestartsTheTracker :
    (Taking oneHeld ∧
      (0 < SettingId.uEnd.scope ∧ SettingId.limits .uEnd oneHeld = some (100, 1900) ∧ 100 ≤ 1900 ∧
        SettingId.uEnd ∉ ([.injectorLevel, .periodic, .maxAge, .plungerTolerance, .tapTolerance, .uStart] : List SettingId)) ∧
      (100 ∈ ([10, 100] : List Nat)) ∧ SettingId.ofCode 0x0064 = none ∧ SettingId.gain.scope ≤ 12 ∧ ((11 : Int) ≠ 10 ∧ (11 : Int) ≠ 100) ∧
      (State.reset.runState = .starting ∧ State.reset.link.slots.length < 2 ∧ 11 < SettingId.gain.scope ∧
        (SettingId.limits .gain State.reset).isSome = true)) ∧
    ((oneHeld.link.slots.length < 2 ∧ oneHeld.runState = .setup ∧ 60 ∈ ([50, 60] : List Nat) ∧ 60 ≠ oneHeld.settings.nominal ∧
        oneHeld.settings.nominal = 50) ∧
      (inRun.runState = .run ∧ inRun.link.slots.length < 2) ∧ ((55 : Int) ≠ 50 ∧ (55 : Int) ≠ 60)) :=
  ⟨⟨taking_oneHeld, by decide, by decide, by decide, by decide, by decide, by decide⟩,
    by decide⟩

theorem witness_SetLevelThresholdAndToleranceActAtOnce :
    Taking station ∧ station.settings.plungerTolerance[(0 : Coil)] = (clamped 1 400 10).1 ∧
      station.settings.plungerTolerance[(0 : Coil)] ≠ (clamped 1 400 401).1 ∧
      station.settings.tapTolerance[(1 : Coil)] ≠ (clamped 0 3 4).1 :=
  ⟨taking_station, by decide, by decide, by decide⟩

/-- The station set up with contacts 3 and 4 assigned to coupler 1, the closed one active and the open one as given. -/
def coupled (opened : Bool) (form : IndicationForm) : State :=
  ((stationSetup.setInput 3 ⟨true, some true, none, 10, false, .couplerClosed 1⟩).setInput 4
    ⟨opened, some opened, none, 10, false, .couplerOpen 1⟩).setIndication 1 ⟨form, none⟩

theorem witness_SetOfTimersAndInputsActsAtOnce_by_kind :
    (let s := (stationSetup.setInput 12 ⟨true, some true, none, 10, false, .feeder 7⟩).setFeeder 7 ⟨true, 1, .out, some 1250, 3, none⟩
     (s.reg.feeder[(7 : FeederNo)]).defined = true ∧ (s.contacts.input[(12 : ContactNo)]).active = some true ∧
       (s.reg.feeder[(8 : FeederNo)]).defined = false ∧ (s.contacts.input[(0 : ContactNo)]).active ≠ some true ∧
       (∀ j : ContactNo, j ≠ 12 → (s.contacts.input[j]).assignment ≠ .feeder 7)) ∧
      (IndicationForm.double ≠ ((coupled false .singleClosed).contacts.indication[(1 : Coupler)]).form ∧
        assignedActive (coupled false .singleClosed) (.couplerClosed 1) = some true ∧
        assignedActive (coupled false .singleClosed) (.couplerOpen 1) = some false) ∧
      ((coupled false .double).contacts.indication[(1 : Coupler)]).form = .double := by decide

/-- A second contact makes the form DOUBLE and delivers CLOSED at once, and two that agree start the timer (R165). -/
theorem test_a_double_form_delivers :
    (assignmentMade 4 (.couplerOpen 1) (coupled false .singleClosed)).topo.coupler[(1 : Coupler)] = .closed ∧
      (let t := assignmentMade 4 (.couplerOpen 1) (coupled true .singleClosed)
       t.topo.coupler[(1 : Coupler)] = .opened ∧ (t.contacts.indication[(1 : Coupler)]) = ⟨.double, some 500⟩) := by decide

theorem witness_SetOfTimersAndInputsActsAtOnce :
    Taking oneHeld ∧ Taking station ∧
      ((oneHeld.contacts.input[(23 : ContactNo)]).inverted = false ∧ (oneHeld.contacts.input[(23 : ContactNo)]).inverted ≠ true ∧
        (oneHeld.contacts.input[(23 : ContactNo)]).level = some false ∧
        (oneHeld.contacts.input[(23 : ContactNo)]).assignment = .nothing) ∧
      ({ oneHeld with contacts := State.reset.contacts } : State).contacts.input[(0 : ContactNo)].level = none ∧
      (oneHeld.runState = .setup ∧ ∀ j : ContactNo, j ≠ 0 → (oneHeld.contacts.input[j]).assignment ≠ .coilPark 3) ∧
      ((oneHeld.contacts.input[(0 : ContactNo)]).active ≠ some true) ∧
      (let s := oneHeld.setInput 1 ⟨false, some false, none, 10, false, .coilPark 3⟩
       ¬ (Assignment.coilPark 3 = .nothing ∨ ∀ j : ContactNo, j ≠ 0 → (s.contacts.input[j]).assignment ≠ .coilPark 3)) ∧
      inRun.runState = .run :=
  ⟨taking_oneHeld, taking_station, by decide, by decide, by decide, by decide, by decide, by decide⟩

theorem witness_GroupTableFollowsTheCouplers :
    let t := ({ station.topo with coupler := #v[.closed, .unknown, .opened] } : Topology).recomputed (fun c => decide (c ≤ 1))
    t.groupOf[(0 : Section)] = 0 ∧ (t.group[(0 : Group)]).held = true ∧ (t.group[(0 : Group)]).lead = some 0 ∧
      (t.group[(3 : Group)]).lead = none ∧ t.groupOf[(0 : Section)] = t.groupOf[(1 : Section)] := by decide

theorem witness_CouplerSetIsOneTopologyChange :
    (station.link.slots.length < 2 ∧ station.runState ≠ .starting ∧
        (¬ ∃ i : ContactNo, (station.contacts.input[i]).assignment = .couplerClosed 2 ∨
          (station.contacts.input[i]).assignment = .couplerOpen 2) ∧
        station.topo.coupler[(2 : Coupler)] = .opened ∧ station.topo.coupler[(2 : Coupler)] ≠ .closed) ∧
      (∃ i : ContactNo, ((withInput 5 ⟨false, some false, none, 10, false, .couplerClosed 1⟩).contacts.input[i]).assignment =
        .couplerClosed 1) ∧ 3 ≤ 3 := by decide

theorem witness_CouplerChangesCarryTheGroupsState :
    (topologyLaw measured = true ∧ availabilityLaw measured = true ∧ measured.topo.coupler[(1 : Coupler)] ≠ .closed ∧
        measured.topo.coupler[(1 : Coupler)] ≠ .unknown ∧ measured.topo.coupler[(0 : Coupler)] = .closed) ∧
      ((0 : Group) ≠ 2 ∧ (measured.topo.group[(3 : Group)]).held = false) ∧
      (((measured.setDecisions [⟨0, [0, 1]⟩]).seq.decisions = [⟨0, [0, 1]⟩]) ∧
        ([⟨7, 1, .into, .out, 0, .valid, none, .nothing, 4⟩] : List ListEntry).Pairwise (fun e f => e.order ≤ f.order)) := by decide

theorem witness_CouplerChangesAbortAndRetriggerTheGroups :
    (topologyLaw cycling = true ∧ availabilityLaw cycling = true ∧ useLaw cycling = true ∧ heldLaw cycling = true ∧
        cycling.runState ≠ .starting ∧ cycling.topo.coupler[(0 : Coupler)] = .closed ∧ cycling.topo.coupler[(1 : Coupler)] = .opened) ∧
      ((cycling.seq.machine[(0 : Group)]).capture.isSome = true ∧ (cycling.seq.machine[(0 : Group)]).state.inFlight = true ∧
        (cycling.seq.machine[(0 : Group)]).capture.map Capture.lead = some 0) := by decide

/-- The kinds, subjects and values of a state's queued notices. -/
def noticed (s : State) : List Event := s.events.queue.map (fun n => (n.kind, n.subject, n.values))

/-- The power-on event unit with an empty queue. -/
def quietEvents : EventUnit := { State.reset.events with queue := [], latched := 0 }

/-- The split of group 0 in flight (R31, R48, R81): both sides change from sections 0, 1 and two members to one of each, the cycle is
aborted, and without a feeder IN both sides go to NONE. -/
theorem test_a_split_raises_in_order :
    noticed (after (.couplerSet 1 0 0) { cycling with events := quietEvents }) =
      [(.groupChange, some 0, [some 3, some 1, some 2, some 1]), (.groupChange, some 1, [some 3, some 2, some 2, some 1]),
        (.cycleAborted, some 0, [some 4, some 0, some 2, some 4]), (.estimate, some 0, [some 0, none, none, some 6]),
        (.estimate, some 1, [some 0, none, none, some 6])] := by decide

/-- No cycle, drive or RANGE_LIMIT adds an event in SETUP. -/
theorem witness_CouplerChangesAbortAndRetriggerTheGroups_in_setup :
    stationSetup.runState = .setup ∧ (∀ c : Coil, (stationSetup.drive[c]).state.running = false) ∧
      (∀ g : Group, (stationSetup.planner.record[g]).range = .clear) ∧ topologyLaw stationSetup = true ∧
      availabilityLaw stationSetup = true ∧ useLaw stationSetup = true ∧ heldLaw stationSetup = true := by decide

/-- A split carries its decision to both sides (R50), and a merge takes the later hold (R154). -/
theorem test_a_coupler_change_carries :
    (after (.couplerSet 1 0 0) (measured.setDecisions [⟨0, [0, 1]⟩])).seq.decisions = [⟨0, [0]⟩, ⟨0, [1]⟩] ∧
      (after (.couplerSet 1 1 1) ((measured.setHold 0 (some 5)).setHold 2 (some 9))).sup.hold = #v[some 9, none, none, none] := by decide

/-- The station in RUN with coil 0 MANUAL. -/
def byHand : State := after (.coilMode 1 0 2) { station with link := State.reset.link }

/-- Coil 0's drive on its way up to 2100. -/
def runningDrive : Drive :=
  { station.drive[(0 : Coil)] with
    state := .runningUp
    running := some ⟨2100, .auto⟩
    best := some 1950
    travel := some 5000
    raiseOut := true }

theorem witness_CoilConfigAndCoilModeWriteTheRecord :
    ((ready.link.slots.length < 2 ∧ ready.runState = .setup ∧ (ready.drive[(3 : Coil)]).state = .idle ∧
        (ready.topo.coil[(3 : Coil)]).mode = .absent ∧ (⟨.tapped, 3, true, .manual⟩ : CoilRecord) ≠ ready.topo.coil[(3 : Coil)]) ∧
      (stationSetup.runState = .setup ∧ (stationSetup.topo.coil[(0 : Coil)]).mode = .auto ∧
        (⟨.plunger, 0, true, .auto⟩ : CoilRecord) = stationSetup.topo.coil[(0 : Coil)]) ∧
      (∃ i : ContactNo, ((ready.setInput 9 ⟨true, some true, none, 10, false, .coilPark 3⟩).contacts.input[i]).assignment = .coilPark 3 ∧
        ((ready.setInput 9 ⟨true, some true, none, 10, false, .coilPark 3⟩).contacts.input[i]).active = some true) ∧
      station.runState = .run ∧
      (let s := stationSetup.setDrive 0 { stationSetup.drive[(0 : Coil)] with state := .pending }
       s.runState = .setup ∧ (s.drive[(0 : Coil)]).state ≠ .idle ∧ (s.drive[(0 : Coil)]).state ≠ .fault) ∧ 4 ≤ 4) ∧
    (Taking station ∧ CoilMode.manual ≠ .absent ∧ (station.topo.coil[(3 : Coil)]).mode = .absent ∧
      ((station.topo.coil[(0 : Coil)]).mode = .auto ∧ station.planner.table[(0 : Coil)] ≠ [] ∧
        ¬ ∃ i : ContactNo, (station.contacts.input[i]).assignment = .coilPark 0) ∧
      (∃ i : ContactNo, ((withInput 9 ⟨false, some false, none, 10, false, .coilPark 0⟩).contacts.input[i]).assignment = .coilPark 0) ∧
      ({ station with planner := { station.planner with table := Vector.replicate 4 [] } } : State).planner.table[(0 : Coil)] = [] ∧ 4 ≤ 4 ∧
      (let s := withDrive 0 runningDrive
       topologyLaw s = true ∧ (s.topo.coil[(0 : Coil)]).mode = .auto ∧ (s.drive[(0 : Coil)]).state.running = true ∧
         (s.drive[(0 : Coil)]).running = some ⟨2100, .auto⟩) ∧
      (let s := (after (.coilMode 1 0 1) stationSetup).setDrive 0 { station.drive[(0 : Coil)] with inputCode := 4096 }
       topologyLaw s = true ∧ (s.topo.coil[(0 : Coil)]).mode = .parked ∧ (s.drive[(0 : Coil)]).state.running = false ∧
         reportOf (s.topo.coil[(0 : Coil)]).type (s.drive[(0 : Coil)]).inputCode (s.drive[(0 : Coil)]).inputValid = none ∧
         reportOf (s.topo.coil[(0 : Coil)]).type 1900 true = some 1900 ∧ s.runState = .setup) ∧
      ((byHand.topo.coil[(0 : Coil)]).mode = .manual ∧ topologyLaw byHand = true ∧ byHand.planner.table[(0 : Coil)] ≠ [] ∧
        (1 : Coil) ≠ 0 ∧ ((station.drive[(1 : Coil)]).state.running = true → False))) :=
  ⟨by decide,
    ⟨taking_station, by decide, by decide, by decide, by decide, by decide, by decide, by decide, by decide, by decide⟩⟩

/-- COIL_CONFIG with the drive at rest: an ABSENT coil brought back with and without a report and under COIL_PARK, a changed type,
and a coil declared not present. -/
theorem witness_CoilConfigAndCoilModeWriteTheRecord_drives :
    let heard : State := ready.setDrive 3 { ready.drive[(3 : Coil)] with inputCode := 9, inputValid := true }
    let failed : State := stationSetup.setDrive 0 { station.drive[(0 : Coil)] with state := .fault, inputCode := 4096 }
    ((ready.drive[(3 : Coil)]).state = .idle ∧ (ready.topo.coil[(3 : Coil)]).mode = .absent ∧
        reportOf .tapped (ready.drive[(3 : Coil)]).inputCode (ready.drive[(3 : Coil)]).inputValid = none ∧
        reportOf .tapped (heard.drive[(3 : Coil)]).inputCode (heard.drive[(3 : Coil)]).inputValid = some 9) ∧
      ((failed.drive[(0 : Coil)]).state = .fault ∧ (failed.topo.coil[(0 : Coil)]).mode = .auto ∧
        (failed.topo.coil[(0 : Coil)]).type ≠ .tapped ∧
        reportOf .tapped (failed.drive[(0 : Coil)]).inputCode (failed.drive[(0 : Coil)]).inputValid = none) ∧
      (topologyLaw stationSetup = true ∧ (1 : Coil) ≠ 0 ∧ (stationSetup.drive[(1 : Coil)]).state.running = false) := by decide

/-- A change of members in RUN with the cycle of the group in flight and in SETUP with the drives at rest; and the loss of the lead's
injector that keeps the members. -/
theorem witness_CoilRecordChangesAbortAndRetriggerTheGroups :
    let record := cycling.topo.coil[(1 : Coil)]
    let parked := changeTopology (fun u => { u with coil := u.coil.set 1 { record with mode := .parked } }) cycling
    let dark := changeTopology (fun u => { u with coil := u.coil.set 0 { cycling.topo.coil[(0 : Coil)] with injector := false } }) cycling
    (topologyLaw cycling = true ∧ availabilityLaw cycling = true ∧ heldLaw cycling = true ∧ cycling.runState ≠ .starting) ∧
      ((parked.topo.group[(0 : Group)]).members = [0] ∧ (cycling.topo.group[(0 : Group)]).members = [0, 1] ∧
        (cycling.seq.machine[(0 : Group)]).state.inFlight = true) ∧
      ((dark.topo.group[(0 : Group)]).members = [0, 1] ∧ (cycling.seq.injector[(0 : Coil)]).available = true ∧
        (cycling.seq.machine[(0 : Group)]).capture.map Capture.lead = some 0) ∧
      (stationSetup.runState = .setup ∧ (∀ d : Coil, (stationSetup.drive[d]).state.running = false) ∧
        (stationSetup.drive[(1 : Coil)]).state ≠ .pending ∧ topologyLaw stationSetup = true ∧ availabilityLaw stationSetup = true ∧
        heldLaw stationSetup = true) := by decide

/-- Coil 1 is parked in RUN while coil 0 leads the cycle (R31, R36, R46, R51, R79): one abort as ABORTED_TOPOLOGY, the switching
delay of 2 s restarted, the change mark set. -/
theorem test_a_member_leaves_in_flight :
    let t := handActive (.coilPark 1) true { cycling with events := quietEvents }
    noticed t =
        [(.groupChange, some 0, [some 3, some 3, some 2, some 1]), (.cycleAborted, some 0, [some 4, some 0, some 2, some 4]),
          (.injector, some 1, [some 0, some 4, some 4, some 1])] ∧
      (t.seq.machine[(0 : Group)]).switching = some 2000 ∧ (t.est[(0 : Group)]).changeMark = true ∧
      (t.est[(0 : Group)]).lastCycle.map Prod.fst = some .abortedTopology := by decide

/-- A mode change interrupts the move of the mode it leaves (R135): AUTO to MANUAL has the AUTO move coast as INTERRUPTED. -/
theorem test_a_mode_change_interrupts :
    (let d := (after (.coilMode 1 0 2) (withDrive 0 runningDrive)).drive[(0 : Coil)]
     d.state = .stopping ∧ d.stopReason = some .interrupted ∧ d.raiseOut = false) := by decide

/-- Coil 1's drive in the delay between two steps. -/
def delayedDrive : Drive :=
  { station.drive[(1 : Coil)] with state := .runningUp, running := some ⟨6, .auto⟩, phase := some .delay, delay := some 1 }

/-- Coil 0's drive in its coast. -/
def coastingDrive : Drive :=
  { station.drive[(0 : Coil)] with state := .stopping, running := some ⟨1900, .auto⟩, stopReason := some .reached, coast := some 1 }

theorem witness_StopsExpiriesAndClearsMoveTheDrive :
    (station.settings.coast[(0 : Coil)] ≠ 0 ∧
      (let s : State := { withDrive 0 runningDrive with settings := { station.settings with coast := Vector.replicate 4 0 } }
       s.settings.coast[(0 : Coil)] = 0 ∧ (s.drive[(0 : Coil)]).running = some ⟨2100, .auto⟩) ∧
      (((withDrive 1 delayedDrive).drive[(1 : Coil)]).state = .runningUp ∧ ((withDrive 1 delayedDrive).drive[(1 : Coil)]).delay ≠ none) ∧
      (∃ i : ContactNo, ((withInput 0 ⟨true, some true, none, 10, false, .limitUp 1⟩).contacts.input[i]).assignment = .limitUp 1 ∧
        ((withInput 0 ⟨true, some true, none, 10, false, .limitUp 1⟩).contacts.input[i]).active = some true) ∧
      (((withDrive 0 coastingDrive).drive[(0 : Coil)]).coast ≠ none ∧
        ((withDrive 0 coastingDrive).drive[(0 : Coil)]).running = some ⟨1900, .auto⟩ ∧
        ((withDrive 0 coastingDrive).drive[(0 : Coil)]).stopReason = some .reached ∧ (withDrive 0 coastingDrive).runState = .run ∧
        ((withDrive 0 coastingDrive).topo.coil[(0 : Coil)]).mode.member = true) ∧ stationSetup.runState = .setup) ∧
    (Taking station ∧ (station.topo.coil[(0 : Coil)]).mode ≠ .absent ∧ (station.drive[(0 : Coil)]).state = .idle ∧
      (∀ st ∈ ([.pending, .stopping, .runningUp, .runningDown, .fault] : List DriveState),
        ((withDrive 0 { station.drive[(0 : Coil)] with state := st }).drive[(0 : Coil)]).state = st ∧
        ((withDrive 0 { station.drive[(0 : Coil)] with state := st }).drive[(0 : Coil)]).feedback = true) ∧
      ((withDrive 0 { station.drive[(0 : Coil)] with state := .fault, feedback := false }).drive[(0 : Coil)]).feedback = false ∧
      (station.topo.coil[(3 : Coil)]).mode = .absent ∧ 4 ≤ 4) :=
  ⟨by decide,
    ⟨taking_station, by decide, by decide, by decide, by decide, by decide, by decide⟩⟩

/-- The station with feeder 7 defined on section 1, IN, with a known contribution. -/
def fed : State := measured.setFeeder 7 ⟨true, 1, .into, some 1250, 3, none⟩

/-- The station with feeder 7 under contact 12, which is active. -/
def contacted (f : Feeder) : State := (withInput 12 ⟨true, some true, none, 10, false, .feeder 7⟩).setFeeder 7 { f with source := some 12 }

theorem witness_FeederDefineWritesTheEntry :
    Taking station ∧ 2 ∈ ([0, 1, 2] : List Nat) ∧ (station.reg.feeder[(47 : FeederNo)]).defined = false ∧
      ((fed.reg.feeder[(7 : FeederNo)]).defined = true ∧ (fed.reg.feeder[(7 : FeederNo)]).sect = 1 ∧
        some 1251 ≠ (fed.reg.feeder[(7 : FeederNo)]).contribution ∧ some 1250 = (fed.reg.feeder[(7 : FeederNo)]).contribution ∧
        (fed.reg.feeder[(7 : FeederNo)]).sect ≠ 0) ∧
      (let s := contacted ⟨true, 1, .into, some 1250, 3, none⟩
       (s.reg.feeder[(7 : FeederNo)]).defined = true ∧ (s.reg.feeder[(7 : FeederNo)]).sect ≠ 0 ∧
         ((s.reg.feeder[(7 : FeederNo)]).source.bind (fun i => (s.contacts.input[i]).active)) = some true) ∧
      48 ≤ 48 ∧ 2 ≤ 2 ∧ 4 ≤ 4 ∧ 3 ≤ 3 :=
  ⟨taking_station, by decide, by decide, by decide, by decide, by decide, by decide, by decide, by decide⟩

/-- A definition on another section makes two transitions of a feeder with a contact (R88, R90): one away, one of the new section. -/
theorem test_feeder_define_moves_a_feeder :
    let s := contacted ⟨true, 1, .into, some 1250, 3, none⟩
    let t := after (.feederDefine 1 7 1 2 0 0) s
    ((t.reg.list[(0 : Group)]).entries.map (fun e => (e.sect, e.old, e.new)) = [(1, .into, .unknown)]) ∧
      ((t.reg.list[(2 : Group)]).entries.map (fun e => (e.sect, e.old, e.new)) = [(2, .unknown, .into)]) ∧
      (t.reg.feeder[(7 : FeederNo)]).state = .into ∧ (t.seq.machine[(2 : Group)]).switching = some 2000 := by decide

theorem witness_MergeAndSplitFormTheEstimates :
    (validEstimate.value = some ⟨13799, 613⟩ ∧ Estimate.reset.value = none ∧ validEstimate.freeze.state = .frozen) ∧
      (0 < 1 ∧ splitSum fed [1] = some 1250 ∧ splitSum fed [0] = some 0 ∧
        splitSum (fed.setFeeder 8 ⟨true, 1, .into, none, 0, none⟩) [1] = none) := by decide

theorem witness_FeederSetTakesOneTransitionAndPreTunes :
    Taking fed ∧ ((fed.reg.feeder[(7 : FeederNo)]).defined = true ∧ (fed.reg.feeder[(7 : FeederNo)]).source = none ∧
        (fed.reg.feeder[(7 : FeederNo)]).state = .into ∧ (fed.reg.feeder[(7 : FeederNo)]).state ≠ .out) ∧
      ({ fed with runState := .setup } : State).runState = .setup ∧ (fed.reg.feeder[(0 : FeederNo)]).defined = false ∧
      (((fed.setFeeder 7 ⟨true, 1, .into, some 1250, 3, some 12⟩).reg.feeder[(7 : FeederNo)]).source.isSome = true) ∧ 48 ≤ 48 ∧
      (validEstimate.value = some ⟨13799, 613⟩ ∧ validEstimate.state = .valid ∧ validEstimate.freeze.state = .frozen ∧
        validEstimate.freeze.returnState = some .valid ∧ Estimate.reset.state = .empty ∧ Estimate.reset.freeze.state = .frozen ∧
        Estimate.reset.freeze.returnState = some .empty) :=
  ⟨⟨by decide, by decide⟩, by decide, by decide, by decide, by decide, by decide, by decide⟩

theorem witness_FeederSetTakesOneTransitionAndPreTunes_in_run :
    topologyLaw fed = true ∧ fed.runState = .run ∧ fed.settings.tSwitch ≠ 0 := by decide

/-- The station whose group 0 lists one opening of feeder 7, entered at 13799. -/
def opened : State :=
  (fed.setFeeder 7 ⟨true, 1, .out, some 1250, 3, none⟩).setList 0
    ⟨[⟨7, 1, .into, .out, 0, .valid, some 13799, .preTuned 1250, 0⟩], false⟩

theorem witness_ConfirmingCyclesTeachOneFeeder :
    (opened.reg.list[(0 : Group)]).overflow = false ∧
      (∃ e ∈ (opened.reg.list[(0 : Group)]).entries, (opened.reg.list[(0 : Group)]).entries = [e] ∧ e.iCBefore = some 13799 ∧
        (e.old = .into ∧ e.new = .out) ∧ e.estBefore = .valid ∧ (opened.reg.feeder[e.feeder]).defined = true ∧
        (opened.reg.feeder[e.feeder]).state = e.new ∧ opened.topo.groupOf[(opened.reg.feeder[e.feeder]).sect] = 0) ∧
      (∀ e ∈ (fed.reg.list[(0 : Group)]).entries, (fed.reg.list[(0 : Group)]).entries ≠ [e]) := by decide

/-- The contribution learned by the confirming cycle (chapter 5): 12610 after 13799 teaches 1189, and 1250 goes to 1219. -/
theorem test_a_confirming_cycle_teaches :
    let t := takeOutcome 0 .confirming 12610 false opened
    (t.reg.feeder[(7 : FeederNo)]).contribution = some 1219 ∧ (t.reg.feeder[(7 : FeederNo)]).updates = 4 ∧
      (t.reg.list[(0 : Group)]).entries = [] := by decide

theorem witness_SetpointPlansAndMeasureSetsTheFlag :
    Taking station ∧ (station.planner.setpoint[(0 : Section)] = 50 ∧ station.planner.setpoint[(0 : Section)] ≠ 300) ∧
      station.topo.groupOf[(1 : Section)] ≠ 1 ∧ station.topo.groupOf[(0 : Section)] = 0 ∧ stationSetup.runState = .setup ∧ 4 ≤ 4 :=
  ⟨taking_station, by decide, by decide, by decide, by decide, by decide⟩

/-- A load of two points opened for coil 0, one of them written. -/
def loading : State := after (.tablePoints 1 [(0, 5000)]) { after (.tableOpen 1 0 2) ready with link := { State.reset.link with load := some ⟨0, 2, []⟩ } }

theorem witness_TableOpenAndPointsFillTheLoad :
    (oneHeld.link.slots.length < 2 ∧ (oneHeld.runState ≠ .starting ∧ 2 ≤ 2 ∧ 32 ≤ 32) ∧ (4 ≤ 4 ∨ 1 < 2 ∨ 32 < 33) ∧
      State.reset.runState = .starting) ∧
    loading.link.slots.length < 2 ∧ ((List.replicate 17 (0, 0) : List (Nat × Nat)) = [] ∨ 16 < (List.replicate 17 (0, 0) : List (Nat × Nat)).length) ∧
      (State.reset.runState = .starting) ∧ (ready.link.load = none ∧ ready.runState ≠ .starting) ∧
      (loading.link.load = some ⟨0, 2, [⟨0, 5000⟩]⟩ ∧ loading.runState ≠ .starting ∧ 2 < 1 + 2 ∧ 1 + 1 ≤ 2) ∧
      (∀ m rest, ([] : List Byte) = m :: rest → rest.length ≠ 4 * m.toNat) :=
  ⟨by decide, by decide, by decide, by decide, by decide, by decide, by intro m rest h; cases h⟩

/-- The load of two points complete, while coil 0 runs up to 2100 in SETUP. -/
def loadedRunning (hi : Nat) : State :=
  { (withDrive 0 { runningDrive with running := some ⟨2100, .manual⟩ }) with
    runState := .setup
    link := { State.reset.link with load := some ⟨0, 2, [⟨0, 5000⟩, ⟨hi, 20000⟩]⟩ } }

theorem witness_TableCommitSwapsAValidLoad :
    (State.reset.runState = .starting ∧ State.reset.link.slots.length < 2) ∧ (ready.link.load = none ∧ ready.runState ≠ .starting) ∧
      (loading.link.load = some ⟨0, 2, [⟨0, 5000⟩]⟩ ∧ loading.runState = .setup ∧ [(⟨0, 5000⟩ : Point)].length ≤ 2) ∧
      ({ station with link := loading.link } : State).runState = .run ∧ (station.topo.coil[(0 : Coil)]).mode ≠ .parked ∧
      TableLoad.firstBad .plunger ⟨0, 2, [⟨0, 5000⟩]⟩ = some 1 ∧
      TableLoad.firstBad .plunger ⟨0, 2, [⟨0, 1⟩, ⟨4095, 65535⟩]⟩ = none ∧
      ((loadedRunning 2000).link.slots.length < 2 ∧ (loadedRunning 2000).runState = .setup ∧
        ((loadedRunning 2000).drive[(0 : Coil)]).running = some ⟨2100, .manual⟩) := by decide

/-- A new range reaches the running target, and the stop is tested at once (R137): 1905 is within 10 counts of 1900. -/
theorem test_a_new_range_brings_the_target :
    ((after (.tableCommit 1) (loadedRunning 2000)).drive[(0 : Coil)]).running = some ⟨2000, .manual⟩ ∧
      ((after (.tableCommit 1) (loadedRunning 2000)).drive[(0 : Coil)]).state = .runningUp ∧
      ((after (.tableCommit 1) (loadedRunning 1905)).drive[(0 : Coil)]).state = .stopping ∧
      ((after (.tableCommit 1) (loadedRunning 2200)).drive[(0 : Coil)]).running = some ⟨2100, .manual⟩ := by decide

theorem witness_EventsAreLatchedQueuedAndConfigured :
    ((EventKind.noticeOverrun = .noticeOverrun) ∧ (0x0100#16).getLsbD (EventKind.inputChange.code - 1) = true) ∧
      (ready.events.queue.length < 32 ∧ ready.events.mask.getLsbD (EventKind.estimate.code - 1) = false) ∧
      (let s : State := { ready with events := { ready.events with queue := List.replicate 32 ⟨.freqHeld, false, 0, none, []⟩ } }
       32 ≤ s.events.queue.length ∧ s.events.mask.getLsbD (EventKind.estimate.code - 1) = false) ∧
      16 ∈ ([1, 4, 8, 16] : List Nat) ∧ 2 ∉ ([1, 4, 8, 16] : List Nat) ∧ ready.runState ≠ .starting := by decide

theorem witness_EnterSetupAndRunMoveTheRunState :
    (let s : State := { ready with runState := .starting }
     s.runState = .starting ∧ (∀ i : ContactNo, (s.contacts.input[i]).level.isSome = true)) ∧
    (stationSetup.runState = .setup ∧ stationSetup.link.slots.length < 2 ∧
        (∀ c : Coil, ¬ (((stationSetup.topo.coil[c]).mode = .manual ∨ (stationSetup.topo.coil[c]).mode = .auto) ∧
          stationSetup.planner.table[c] = []))) ∧
      (stationSetup.topo.groupOf[(0 : Group)] = 0 ∧ (stationSetup.topo.group[(0 : Group)]).held = false ∧ frozen stationSetup 0 = false ∧
        stationSetup.topo.groupOf[(1 : Group)] ≠ 1) ∧
      (let s : State := { stationSetup with planner := { stationSetup.planner with table := #v[plungerTable, [], [], []] } }
       (s.topo.coil[(1 : Coil)]).mode = .auto ∧ s.planner.table[(1 : Coil)] = [] ∧ s.planner.table[(0 : Coil)] ≠ []) ∧
      station.runState = .run ∧ State.reset.runState = .starting := by decide

theorem witness_StopLeavesRun :
    Taking station ∧ stationSetup.runState = .setup ∧ cycling.runState = .run ∧
      ((cycling.seq.machine[(0 : Group)]).capture.isSome = true ∧ (cycling.seq.machine[(0 : Group)]).state.inFlight = true) ∧
      (cycling.seq.machine[(2 : Group)]).capture.isSome = false ∧
      (let s := withDrive 0 runningDrive
       (s.drive[(0 : Coil)]).state.running = true ∧ (s.drive[(0 : Coil)]).running.map Target.origin = some .auto ∧
         s.settings.coast[(0 : Coil)] ≠ 0 ∧ (s.drive[(1 : Coil)]).pending.map Target.origin ≠ some .auto ∧
         (s.drive[(1 : Coil)]).state.running = false) :=
  ⟨taking_station, by decide, by decide, by decide, by decide, by decide⟩

theorem witness_RestartGivesEveryBlockItsRestartState :
    Taking cycling ∧ ((withDrive 0 { runningDrive with state := .fault }).drive[(0 : Coil)]).state = .fault ∧
      (((withDrive 0 runningDrive).drive[(0 : Coil)]).state ≠ .fault ∧ ((withDrive 0 runningDrive).drive[(0 : Coil)]).state.moving = true) ∧
      (station.drive[(0 : Coil)]).state.moving = false ∧ stationSetup.runState = .setup :=
  ⟨⟨by decide, by decide⟩, by decide, by decide, by decide, by decide⟩

theorem witness_RequestsTakenInNoSlotOrInStartingChangeNothing :
    (requestFields (.run 5) = some (0x38, 5, []) ∧ State.reset.runState = .starting ∧ State.reset.link.slots.length < 2) ∧
      2 ≤ (after (.ident 2) oneHeld).link.slots.length := by decide

/-- The receiver of `ready` after some bytes. -/
def received (bytes : List Byte) : State := bytes.foldl (fun s b => after (.receivedByte b) s) ready

theorem witness_AFrameDoesWhatItsCommandDoes :
    (Instr.coilMove 255 3 65535).wellFormed = true ∧ requestFields (.coilMove 255 3 65535) = some (0x13, 255, [3, 0xFF, 0xFF]) ∧
      ready.link.rx = ⟨.hunt, [], 0, none⟩ ∧ (∀ slot ∈ oneHeld.link.slots, slot.isAnswered = true) ∧
      oneHeld.link.rx = ⟨.hunt, [], 0, none⟩ := by decide

theorem witness_AFrameDoesWhatItsCommandDoes_fields :
    (Instr.setpoint 255 255 (-32768)).wellFormed = true ∧
      requestFields (.setpoint 255 255 (-32768)) = some (0x1C, 255, [0xFF, 0x80, 0x00]) := by decide

theorem witness_ReceiverAndTransmitterMoveFrames :
    (ready.link.rx.state = .hunt ∧ ((received [0xC3]).link.rx.state = .length ∧ (received [0xC3]).link.rx.held = []) ∧
      ((received [0xC3, 4]).link.rx.held = [4] ∧ 256 * 4 + 0 ≤ 1024 ∧ 1024 < 256 * 4 + 1) ∧
      ((received [0xC3, 0, 3, 1]).link.rx.state = .body ∧ (received [0xC3, 0, 3, 1]).link.rx.held.length + 1 < 3 + 2 ∧
        (received [0xC3, 0, 3, 1, 5]).link.rx.held.length + 1 = 3 + 2) ∧
      ((received [0xC3, 0, 2, 1, 5]).link.rx.state = .check ∧ (received [0xC3, 0, 2, 1, 5]).link.rx.held.length = 2 + 2) ∧
      (received [0xC3, 0, 2, 1, 5, 0]).link.rx.held = [0, 2, 1, 5] ++ [0] ∧
      256 * (0 : Byte).toNat + (0 : Byte).toNat ≠ (frameCheck [0, 2, 1, 5]).toNat) ∧
    ((ready.link.tx = .free) ∧ (oneHeld.link.tx = .reply ∧ ∃ f, oneHeld.link.slots = .answered f :: []) ∧
      (let s : State := { after (.ident 2) oneHeld with events := State.reset.events }
       s.link.tx = .reply ∧ s.link.slots.length = 2 ∧ s.events.queue ≠ [] ∧ s.events.trigger ≤ s.events.queue.length) ∧
      ((after .noticeFrame ready).link.tx ≠ .free ∧ (after .noticeFrame ready).events.queue = []) ∧
      (ready.events.hold = .running 200 ∧ (after .noticeFrame ready).events.hold = .stopped ∧
        (after .noticeHoldExpiry ready).events.hold = .expired)) :=
  ⟨by decide,
    ⟨by decide, ⟨by decide, ⟨_, rfl⟩⟩, by decide, by decide, by decide⟩⟩

theorem witness_ArithmeticRoundsToNearest : (0 < 1) ∧ (0 : Nat) < Phasor.normSq ⟨0, -1⟩ := by decide

/-- `ready` with section 1 the tracking source and a period in progress. -/
def tracking : State := { ready with tracker := ⟨some 1, [50000, 49951, 50053], some 0, 50000, 7680, false⟩ }

theorem witness_CycleBoundaryPublishesThePhasors :
    (after (.cycleBoundary [] false) ready).tracker.source = none ∧ (after (.cycleBoundary [] false) tracking).tracker.source ≠ tracking.tracker.source ∧
      State.reset.runState = .starting ∧ tracking.runState ≠ .starting := by decide

theorem witness_ZeroCrossingsTimeTheFrequency :
    ready.tracker.source = none ∧ (tracking.tracker.source ≠ none ∧ tracking.tracker.period ≠ none) ∧
      ({ tracking.tracker with period := none } : Tracker).period = none ∧
      ((roundDiv 24576000000 45000).toNat = 546133 ∧ (roundDiv 24576000000 546133).toNat = 45000) ∧
      (roundDiv 24576000000 546134).toNat = 45000 ∧ ¬ (546134 ≤ 546133) ∧ tracking.tracker.history = [50000, 49951, 50053] := by decide

theorem witness_CycleStartNeedsEveryCondition :
    let s := measured.setMachine 0 ⟨.waiting, true, none, none, false, none⟩
    ((s.seq.machine[(0 : Group)]).state = .waiting ∧ (s.seq.machine[(0 : Group)]).flag = true ∧ s.topo.groupOf[(0 : Group)] = 0 ∧
        s.runState = .run ∧ (s.topo.group[(0 : Group)]).held = false ∧ frozen s 0 = false ∧ s.seq.decisions = [] ∧
        (∀ c ∈ (s.topo.group[(0 : Group)]).members, (s.drive[c]).state = .idle) ∧ (s.topo.group[(0 : Group)]).lead = some 0) ∧
      (s.topo.group[(2 : Group)]).lead = none ∧ (measured.seq.machine[(0 : Group)]).state ≠ .waiting := by decide

/-- The capture of `cycling`, and a machine in a named state with the capture `k`. -/
def capture0 : Capture := (cycling.seq.machine[(0 : Group)]).capture.getD
  ⟨0, 0, [], 0, 0, 0, 0, 0, 0, Vector.replicate 4 none, [], 0, [], [], false, false, none, none, none, none, {}⟩

/-- `cycling` brought to a state of its cycle. -/
def cyclingAt (st : CycleState) (k : Capture) : State := cycling.setMachine 0 ⟨st, false, none, none, true, some k⟩

/-- The capture of the admittance case (section 4.2) before its last boundary. -/
def lastBoundary : Capture :=
  { capture0 with uA := some ⟨342, 238⟩, iA := some ⟨30, 1⟩, uB := some ⟨-328, -233⟩, iB := some ⟨-30, -1⟩ }

theorem witness_CycleAdvancesByBoundariesToItsEnd :
    (∀ st ∈ ([.settleA, .windowA, .settleB, .windowB] : List CycleState),
        ((cyclingAt st capture0).seq.machine[(0 : Group)]).capture = some capture0 ∧
          ((cyclingAt st capture0).seq.machine[(0 : Group)]).state = st) ∧
      (capture0.count + 1 < capture0.settle ∧ capture0.settle ≤ { capture0 with count := 9 }.count + 1) ∧
      (capture0.uWindow.length + 1 < capture0.window ∧ capture0.window ≤ (List.replicate 7 (⟨0, 0⟩ : Phasor)).length + 1) ∧
      (cycleResult 30 14200 ⟨0, 0⟩ ⟨0, 0⟩ ⟨0, 0⟩ ⟨0, 0⟩ {}).1 = none ∧
      ((cycleResult 30 lastBoundary.coilCurrent ⟨342, 238⟩ ⟨30, 1⟩ ⟨-328, -233⟩ ⟨-30, -1⟩ lastBoundary.quality).1 =
          some ⟨⟨13799, 613⟩, ⟨7, 3⟩⟩ ∧ lastBoundary.coilCurrent = 14200) ∧
      ((cycling.seq.machine[(0 : Group)]).flag = false ∧ (cycling.setMachine 0 CycleMachine.rest).runState ≠ .starting) ∧
      (stationSetup.runState ≠ .run ∧ (foldResult 150 2 ⟨13799, 613⟩ Estimate.reset).kind ≠ .confirming) := by decide

/-- The W-th boundary of WINDOW_B ends the cycle (R42, R57): without a response it is rejected. -/
theorem test_the_last_boundary_ends_the_cycle :
    let k := { capture0 with uWindow := List.replicate 7 ⟨5, 5⟩, iWindow := List.replicate 7 ⟨1, 1⟩, uA := some ⟨0, 0⟩, iA := some ⟨0, 0⟩ }
    let t := sequencerWork 0 (cyclingAt .windowB k)
    t.ring.records.map HistoryRecord.outcome = [.rejected] ∧ (t.seq.machine[(0 : Group)]).state = .idle ∧
      (t.seq.injector[(0 : Coil)]).enable = false ∧
      (endCycle 0 lastBoundary cycling).ring.records.map HistoryRecord.outcome = [.accepted] := by decide

theorem witness_AbortEndsTheCycleInFlight :
    (measured.seq.machine[(0 : Group)]).capture = none ∧
      ((cycling.seq.machine[(0 : Group)]).capture = some capture0 ∧ (cycling.seq.machine[(0 : Group)]).state.inFlight = true) := by decide

/-- The part at a boundary with the history of group 2 one short of W, and a jump reference far from the published phasor. -/
def quieting : State :=
  let s := station.setEst 2 { Estimate.reset with quiet := List.replicate 7 ⟨900, 0⟩, jumpReference := some ⟨0, 0⟩, armed := true, sinceOff := some 9 }
  { s with acq := { s.acq with phasor := s.acq.phasor.set 2 ⟨900, 0⟩ } }

theorem witness_QuietBoundariesFormTheNaturalDisplacement :
    (quieting.runState ≠ .starting ∧ (quieting.est[(2 : Group)]).armed = true ∧ quieting.settings.window ≤ 7 + 1 ∧
        quieting.settings.tSettle ≤ 9 + 1 ∧ quieting.settings.jump < Phasor.magnitude ⟨900, 0⟩ ∧
        (quieting.topo.group[(2 : Group)]).held = false ∧ frozen quieting 2 = false) ∧
      (∃ c : Coil, (cycling.seq.injector[c]).enable = true ∧ cycling.topo.groupOf[(cycling.topo.coil[c]).sect] = 0) ∧
      (measured.est[(0 : Group)]).armed = false := by decide

/-- A jump (R55): detection is disarmed and the switching delay started; a boundary earlier in the history makes none. -/
theorem test_a_jump_triggers :
    ((quietWork 2 quieting).seq.machine[(2 : Group)]).switching = some 2000 ∧ ((quietWork 2 quieting).est[(2 : Group)]).armed = false ∧
      ((quietWork 0 cycling).est[(0 : Group)]).quiet = [] := by decide

/-- The station with a target pending for coil 0. -/
def pendingMove (t : Target) : State := withDrive 0 { station.drive[(0 : Coil)] with state := .pending, pending := some t }

theorem witness_MoveStartObeysTheGates :
    (let s := pendingMove ⟨1996, .auto⟩
     (s.drive[(0 : Coil)]).state = .pending ∧ (s.drive[(0 : Coil)]).pending = some ⟨1996, .auto⟩ ∧ (s.drive[(0 : Coil)]).interval = none ∧
       episodeCondition s 0 = false ∧ s.runState = .run ∧ (s.topo.group[(0 : Group)]).held = false ∧ frozen s 0 = false ∧
       (s.seq.machine[(0 : Group)]).lock = false ∧ (s.drive[(0 : Coil)]).position = some 1900 ∧
       ¬ (distance 1900 1996 ≤ stopTolerance s 0) ∧ (s.topo.coil[(0 : Coil)]).type = .plunger ∧ (s.topo.coil[(1 : Coil)]).type = .tapped) ∧
      (distance 1900 1910 ≤ stopTolerance (pendingMove ⟨1910, .auto⟩) 0) ∧
      (∃ i : ContactNo, (((pendingMove ⟨1996, .auto⟩).setInput 0 ⟨true, some true, none, 10, false, .limitUp 0⟩).contacts.input[i]).assignment =
          .limitUp 0 ∧
        (((pendingMove ⟨1996, .auto⟩).setInput 0 ⟨true, some true, none, 10, false, .limitUp 0⟩).contacts.input[i]).active = some true) ∧
      ((cycling.seq.machine[(0 : Group)]).lock = true) ∧
      ({ station.drive[(0 : Coil)] with interval := some 1 } : Drive).interval ≠ none := by decide

/-- The station with coil 0 MANUAL and a cycle of its group in flight. -/
def byHandInCycle : State := byHand.setMachine 0 ⟨.settleA, false, none, none, true, some capture0⟩

theorem witness_CoilMoveTakesAManualTarget :
    Taking byHand ∧ (byHand.topo.coil[(0 : Coil)]).mode = .manual ∧ tableRange byHand.planner.table[(0 : Coil)] = some (0, 4095) ∧
      (byHand.drive[(0 : Coil)]).state = .idle ∧
      (∀ st ∈ ([.pending, .stopping, .runningUp, .runningDown, .fault] : List DriveState),
        ((byHand.setDrive 0 { byHand.drive[(0 : Coil)] with state := st }).drive[(0 : Coil)]).state = st) ∧
      ({ byHand with planner := { byHand.planner with table := Vector.replicate 4 [] } } : State).planner.table[(0 : Coil)] = [] ∧
      (station.topo.coil[(0 : Coil)]).mode = .auto ∧ (station.topo.coil[(3 : Coil)]).mode = .absent ∧
      ((byHandInCycle.drive[(0 : Coil)]).position = some 1900 ∧ (byHandInCycle.drive[(0 : Coil)]).interval = none ∧
        episodeCondition byHandInCycle 0 = false ∧ stopTolerance byHandInCycle 0 < distance 1900 2100 ∧
        (¬ ∃ i : ContactNo, (byHandInCycle.contacts.input[i]).assignment = .limitUp 0 ∧
          (byHandInCycle.contacts.input[i]).active = some true) ∧ (byHandInCycle.seq.machine[(0 : Group)]).lock = true) ∧
      ((withDrive 0 runningDrive).drive[(0 : Coil)]).running.map Target.pos = some 2100 ∧ 4 ≤ 4 :=
  ⟨⟨by decide, by decide⟩, by decide, by decide, by decide, by decide, by decide, by decide, by decide, by decide, by decide, by decide⟩

/-- COIL_MOVE of a MANUAL coil whose gates hold starts the move at once, and ends the cycle of its group (R43, R52, R123). -/
theorem test_a_move_by_hand_aborts_the_cycle :
    let t := after (.coilMove 1 0 2100) byHandInCycle
    reply t = [0, 0, 0x08, 0x34, 2, 0, 0, 0xFF, 0x08, 0x34, 1] ∧ (t.drive[(0 : Coil)]).raiseOut = true ∧
      t.ring.records.map HistoryRecord.outcome = [.abortedMove] ∧ (t.seq.machine[(0 : Group)]).lock = false := by decide

theorem witness_PositionReportMovesTheDrive :
    let s := withDrive 0 runningDrive
    ((s.topo.coil[(0 : Coil)]).type = .plunger ∧ (s.drive[(0 : Coil)]).inputCode = 1900 ∧ (s.drive[(0 : Coil)]).inputValid = true ∧
        (s.seq.machine[(0 : Group)]).capture = none ∧ (s.drive[(0 : Coil)]).running = some ⟨2100, .auto⟩ ∧
        (s.drive[(0 : Coil)]).best = some 1950 ∧ (cycling.seq.machine[(0 : Group)]).capture = some capture0) ∧
      (2100 ≤ 2090 + stopTolerance s 0 ∧ 2089 + stopTolerance s 0 < 2100 ∧ 1950 ≤ 1942 + 8 ∧ 1941 + 8 < 1950) ∧
      ((station.drive[(0 : Coil)]).state ≠ .runningUp ∧ (station.drive[(0 : Coil)]).state ≠ .runningDown) ∧
      (let d : Drive := { runningDrive with state := .runningDown, running := some ⟨1700, .auto⟩ }
       d.state = .runningDown ∧ d.best = some 1950) ∧
      (let d : Drive := { delayedDrive with phase := some .step, stepStart := some 4, delay := none, step := some 1 }
       (station.topo.coil[(1 : Coil)]).type = .tapped ∧ d.state = .runningUp ∧ d.running = some ⟨6, .auto⟩ ∧ d.stepStart = some 4 ∧
         4 < 5 ∧ 5 + stopTolerance station 1 < 6 ∧ 6 ≤ 6 + stopTolerance station 1 ∧ 3 < 4) ∧
      (delayedDrive.phase = some .delay ∧ delayedDrive.position = some 4) ∧
      ((4095 < 4096) ∧ (s.topo.coil[(0 : Coil)]).mode.member = true ∧ (s.topo.coil[(3 : Coil)]).mode.member = false ∧
        (s.topo.coil[(3 : Coil)]).type = .plunger) := by decide

/-- Reports of a tapped coil (R130): tap 5 completes the step, tap 6 reaches the target, tap 3 is against the direction. -/
theorem test_reports_of_a_tapped_coil :
    let s := withDrive 1 { delayedDrive with phase := some .step, stepStart := some 4, delay := none, step := some 1, raiseOut := true }
    ((after (.positionReport 1 5 true) s).drive[(1 : Coil)]).phase = some .delay ∧
      ((after (.positionReport 1 5 true) s).drive[(1 : Coil)]).raiseOut = false ∧
      ((after (.positionReport 1 6 true) s).drive[(1 : Coil)]).state = .stopping ∧
      ((after (.positionReport 1 3 true) s).drive[(1 : Coil)]).state = .fault := by decide

theorem witness_TimerExpiriesRaiseFlagsStaleAndFaults :
    ((let s := (measured.setMachine 0 ⟨.idle, false, some 1, some 1, false, none⟩).setHold 0 (some 1)
     s.runState ≠ .starting ∧ (s.seq.machine[(0 : Group)]).switching ≠ none ∧ (s.seq.machine[(0 : Group)]).periodic ≠ none ∧
       s.sup.hold[(0 : Group)] ≠ none ∧ (s.est[(0 : Group)]).state ≠ .frozen ∧
       ((s.setEst 0 validEstimate.freeze).est[(0 : Group)]).state = .frozen ∧
       ((s.setEst 0 validEstimate.freeze).est[(0 : Group)]).returnState = some .valid) ∧
      ((measured.seq.machine[(0 : Group)]).switching = none ∧ (measured.seq.machine[(0 : Group)]).periodic = none ∧
        measured.sup.hold[(0 : Group)] = none) ∧
      ((measured.est[(0 : Group)]).age = some 1000 ∧ (measured.est[(0 : Group)]).stale = false ∧ (measured.est[(0 : Group)]).value ≠ none ∧
        measured.topo.groupOf[(0 : Group)] = 0)) ∧
    ((((withDrive 0 runningDrive).drive[(0 : Coil)]).state = .runningUp ∧ ((withDrive 0 runningDrive).drive[(0 : Coil)]).travel ≠ none) ∧
      ({ delayedDrive with step := some 1, delay := none }.state = .runningUp ∧ { delayedDrive with step := some 1, delay := none }.step ≠ none) ∧
      (station.drive[(0 : Coil)]).travel = none ∧ (station.drive[(0 : Coil)]).step = none ∧ stationSetup.runState = .setup) :=
  ⟨by decide,
    by decide⟩

/-- The station with the start dwell of section 1 running. -/
def dwelling : State := measured.setWatch 1 ⟨some ⟨600000, 7100, 1⟩, none, false⟩

/-- The same station in the episode that this dwell opens. -/
def inEpisode : State := after (.startDwellExpiry 1) dwelling

theorem witness_StartDwellOpensAnEpisode :
    (measured.sup.watch[(1 : Section)]).start = none ∧ (openEpisode inEpisode 1).isSome = true ∧
      ((dwelling.sup.watch[(1 : Section)]).start = some ⟨600000, 7100, 1⟩ ∧ openEpisode dwelling 1 = none ∧
        (dwelling.est[(0 : Group)]).state ≠ .frozen ∧ (∀ c : Coil, dwelling.settings.coast[c] ≠ 0) ∧
        (∀ c ∈ (dwelling.topo.group[(0 : Group)]).members, (dwelling.drive[c]).state.running = true → dwelling.settings.coast[c] ≠ 0)) ∧
      (let s := after (.cycleStart 0) (dwelling.setMachine 0 ⟨.waiting, true, none, none, false, none⟩)
       (s.seq.machine[(0 : Group)]).state.inFlight = true ∧ (s.seq.machine[(0 : Group)]).capture.isSome = true ∧
         (s.sup.watch[(1 : Section)]).start.isSome = true) := by decide

/-- The episode of sections 0 and 1 with section 0 quiet and the end dwell of section 1 running. -/
def ending : State := (inEpisode.setWatch 0 ⟨none, none, true⟩).setWatch 1 ⟨none, some 1, false⟩

theorem witness_EndDwellClosesTheEpisode :
    (inEpisode.sup.watch[(1 : Section)]).endDwell = none ∧
      ((dwelling.setWatch 1 ⟨none, some 1, false⟩).sup.watch[(1 : Section)]).endDwell ≠ none ∧ openEpisode dwelling 1 = none ∧
      ((ending.sup.watch[(1 : Section)]).endDwell ≠ none ∧ ((openEpisode ending 1).map EpisodeRecord.sections) = some [0, 1] ∧
        (ending.sup.watch[(0 : Section)]).quiet = true ∧ ((ending.setWatch 0 ⟨none, none, false⟩).sup.watch[(0 : Section)]).quiet = false ∧
        ending.settings.tHold ≠ 0 ∧ (ending.est[(0 : Group)]).returnState = some .valid ∧ (ending.est[(0 : Group)]).state = .frozen ∧
        ending.runState ≠ .starting) ∧
      ({ ending with settings := { ending.settings with tHold := 0 } } : State).settings.tHold = 0 ∧
      ((openEpisode inEpisode 1).bind EpisodeRecord.persistence = some 7200000 ∧
        (openEpisode dwelling 1).bind EpisodeRecord.persistence = none) := by decide

/-- The manual's order (R150, R151): with T_hold 0 the group is unfrozen within the closing, and EPISODE_END comes last. -/
theorem test_a_closing_without_hold :
    let t := after (.endDwellExpiry 1) { ending with settings := { ending.settings with tHold := 0 }, events := quietEvents }
    ((noticed t).getLast?.map Prod.fst) = some .episodeEnd ∧ (t.est[(0 : Group)]).state = .valid ∧
      (t.seq.machine[(0 : Group)]).flag = true := by decide

/-- Two open episodes of one number, after the counter wrapped (R145): the closing of one leaves the other open (R150). -/
theorem test_episodes_of_one_number :
    let other := inEpisode.sup.log.map (fun e => { e with sections := [3] })
    let t := after (.endDwellExpiry 1) (ending.setLog (other ++ ending.sup.log))
    t.sup.log.map (fun e => (e.number, e.sections, e.outcome)) = [(1, [3], .opened), (1, [0, 1], .cleared)] := by decide

/-- A state whose published U0 of section 1 has the magnitude `m`. -/
def u0Of1 (m : Int) (s : State) : State := { s with acq := { s.acq with phasor := s.acq.phasor.set 1 ⟨m, 0⟩ } }

theorem witness_SectionTestsFollowTheThresholds :
    (openEpisode measured 1 = none ∧ (measured.sup.watch[(1 : Section)]).start = none ∧
        measured.settings.uStart ≤ ((u0Of1 2000 measured).acq.phasor[u0Channel 1]).magnitude ∧
        ((u0Of1 1999 measured).acq.phasor[u0Channel 1]).magnitude < measured.settings.uStart ∧ measured.seq.decisions = []) ∧
      (dwelling.sup.watch[(1 : Section)]).start = some ⟨600000, 7100, 1⟩ ∧
      (([⟨0, [0, 1]⟩] : List Decision) = [] ++ ⟨0, [0, 1]⟩ :: [] ∧ (∃ r ∈ ([0, 1] : List Section), r ≠ 1) ∧
        ∀ r ∈ ([1] : List Section), r = 1) ∧
      ((openEpisode inEpisode 1).isSome = true ∧ (inEpisode.sup.watch[(1 : Section)]).endDwell = none ∧
        (inEpisode.sup.watch[(1 : Section)]).quiet = false ∧
        ((u0Of1 1000 inEpisode).acq.phasor[u0Channel 1]).magnitude ≤ inEpisode.settings.uEnd ∧
        inEpisode.settings.uEnd < ((u0Of1 1001 inEpisode).acq.phasor[u0Channel 1]).magnitude) ∧
      ((inEpisode.setWatch 1 ⟨none, some 1, false⟩).sup.watch[(1 : Section)]).endDwell ≠ none := by decide

/-- The station in a cycle, at a boundary whose published U0 of section 0 has the magnitude `m`. -/
def crossingAt (m : Int) : State := { cycling with acq := { cycling.acq with phasor := cycling.acq.phasor.set 0 ⟨m, 0⟩ } }

theorem witness_CrossingsAreReportedAndSettled :
    (measured.seq.machine[(0 : Group)]).capture = none ∧
      ((cycling.seq.machine[(0 : Group)]).capture = some capture0 ∧ (cycling.seq.machine[(0 : Group)]).state.inFlight = true ∧
        (∀ q : Section, cycling.topo.groupOf[q] = 0 → openEpisode cycling q = none) ∧
        cycling.settings.uStart ≤ ((crossingAt 2000).acq.phasor[u0Channel 0]).magnitude ∧
        ((crossingAt 1999).acq.phasor[u0Channel 0]).magnitude < cycling.settings.uStart) ∧
      cycling.runState ≠ .starting ∧ decisionPending (cycling.setDecisions [⟨0, [1]⟩]) 0 = true := by decide

/-- A false start (section 8.6): the level of coil 0 falls by one, and the decision is gone. -/
theorem test_a_false_start_lowers_the_level :
    let s := (measured.setDecisions [⟨0, [1]⟩]).setWatch 1 ⟨some ⟨0, 2150, 1⟩, none, false⟩
    let t := sectionTest 1 s
    (t.seq.injector[(0 : Coil)]).effective = 3 ∧ t.seq.decisions = [] ∧ (t.seq.machine[(0 : Group)]).flag = true := by decide

theorem witness_DebouncingAndDiscrepancyFollowTheContacts :
    ((station.contacts.input[(23 : ContactNo)]).raw = false ∧ (station.contacts.input[(23 : ContactNo)]).raw ≠ true ∧
        (station.contacts.input[(23 : ContactNo)]).level ≠ some true) ∧
      (let s := withInput 23 ⟨true, some false, some 1, 10, false, .nothing⟩
       (s.contacts.input[(23 : ContactNo)]).raw ≠ false ∧ (s.contacts.input[(23 : ContactNo)]).level = some false ∧
         (s.contacts.input[(23 : ContactNo)]).timer ≠ none ∧
         (s.contacts.input[(23 : ContactNo)]).level = some (!(s.contacts.input[(23 : ContactNo)]).raw) ∧
         (s.contacts.input[(23 : ContactNo)]).assignment = .nothing) ∧
      (State.reset.contacts.startTimer ≠ none ∧ (State.reset.contacts.input[(0 : ContactNo)]).level = none ∧
        (State.reset.contacts.input[(0 : ContactNo)]).timer ≠ none) ∧ station.contacts.startTimer = none ∧
      ((station.contacts.indication[(2 : Coupler)]).timer = none ∧ station.topo.coupler[(2 : Coupler)] ≠ .unknown ∧
        ready.topo.coupler[(2 : Coupler)] = .unknown ∧
        ((station.setIndication 2 ⟨.double, some 1⟩).contacts.indication[(2 : Coupler)]).timer ≠ none) := by decide

theorem witness_ContactItemsTakeTheirChange :
    ((station.topo.coil[(0 : Coil)]).mode = .auto ∧ (station.topo.coil[(3 : Coil)]).mode = .absent ∧
        ({ station with topo := { station.topo with coil := Vector.replicate 4 ⟨.plunger, 0, true, .parked⟩ } } : State).topo.coil[(0 : Coil)].mode =
          .parked) ∧
      (let s := cycling.setInput 9 ⟨true, some true, none, 10, false, .injectorFault 0⟩
       (s.seq.injector[(0 : Coil)]).available = true ∧ (s.topo.coil[(0 : Coil)]).injector = true ∧
         (∃ i : ContactNo, (s.contacts.input[i]).assignment = .injectorFault 0 ∧ (s.contacts.input[i]).active = some true) ∧
         (s.seq.machine[(0 : Group)]).capture = some capture0 ∧ capture0.lead = 0 ∧ (s.seq.machine[(0 : Group)]).state.inFlight = true) ∧
      ((fed.reg.feeder[(0 : FeederNo)]).defined = false ∧ (fed.reg.feeder[(7 : FeederNo)]).defined = true ∧
        (fed.reg.feeder[(7 : FeederNo)]).state ≠ .unknown ∧ (fed.reg.feeder[(7 : FeederNo)]).state ≠ .out ∧
        ((station.setFeeder 7 ⟨true, 1, .unknown, none, 0, none⟩).reg.feeder[(7 : FeederNo)]).state = .unknown ∧
        station.runState ≠ .starting) ∧
      (let s := (withInput 5 ⟨true, some true, none, 10, false, .couplerClosed 0⟩).setInput 6
          ⟨false, some false, none, 10, false, .couplerOpen 0⟩
       assignedActive s (.couplerClosed 0) = some true ∧ assignedActive s (.couplerOpen 0) = some false) := by decide

/-- The loss of the lead's injector (R36, R51): the cycle ends as ABORTED_INJECTOR, flag set; and the release of COIL_PARK (R24). -/
theorem test_contact_items :
    let s := cycling.setInput 9 ⟨true, some true, none, 10, false, .injectorFault 0⟩
    let t := handActive (.injectorFault 0) true s
    t.ring.records.map HistoryRecord.outcome = [.abortedInjector] ∧ (t.seq.machine[(0 : Group)]).state = .waiting ∧
      (t.topo.group[(0 : Group)]).lead = some 1 ∧
      ((handActive (.coilPark 0) false (handActive (.coilPark 0) true station)).topo.coil[(0 : Coil)]).mode = .manual := by decide

/-- The loss of the lead's injector and the transition of a contact's feeder, in a part that has left STARTING under its law. -/
theorem witness_ContactItemsTakeTheirChange_in_run :
    (let s := cycling.setInput 9 ⟨true, some true, none, 10, false, .injectorFault 0⟩
     (([0, 1, 2, 3] : List Group).filter (fun g => decide ((s.seq.machine[g]).capture.map Capture.lead = some 0)) = [0]) ∧
       (abortEvents 0 .abortedInjector s).length = 1) ∧
      (topologyLaw fed = true ∧ fed.runState ≠ .starting ∧ (fed.reg.feeder[(7 : FeederNo)]).state = .into) := by decide

theorem witness_CycleResultIsGuarded : (0 : Nat) < (2 * 5) * (2 * 5) ∧ (2 * 30) * (2 * 30) ≤ 670741 := by decide

/-- The derived values of the admittance case (section 4.2): 29, 44 and 733. -/
theorem test_derived_values : (detuning ⟨13799, 613⟩ 14200, damping ⟨13799, 613⟩, residual ⟨13799, 613⟩ 14200) = (29, 44, 733) := by decide

theorem witness_DerivedValuesFollowTheEstimate :
    ((measured.est[(0 : Group)]).value = some ⟨13799, 613⟩ ∧ 1 ≤ 13799) ∧ (station.est[(0 : Group)]).value = none := by decide

theorem witness_FoldFollowsTheStateOfAnEstimate :
    Estimate.reset.state = .empty ∧
      (∀ c : Option Currents, { validEstimate with candidate := c }.state = .valid ∧ { validEstimate with candidate := c }.value = some ⟨13799, 613⟩) ∧
      (({ Estimate.reset with state := .settling, candidate := some ⟨13799, 613⟩ } : Estimate).candidate = some ⟨13799, 613⟩) ∧
      (let p : Estimate := { validEstimate with state := .provisional, early := true }
       p.state = .provisional ∧ p.value = some ⟨13799, 613⟩ ∧ p.early = true ∧ validEstimate.early = false) ∧
      ((max 13799 13949) - (min 13799 13949) ≤ 150 ∧ ¬ ((max 13799 13950) - (min 13799 13950) ≤ 150)) :=
  ⟨by decide, fun _ => ⟨rfl, rfl⟩, by decide, by decide, by decide⟩

theorem witness_InterpolationFollowsTheSegments :
    increasing plungerTable = true ∧ plungerTable.head? = some ⟨0, 5000⟩ ∧ plungerTable.getLast? = some ⟨4095, 20000⟩ ∧
      plungerTable[0]? = some ⟨0, 5000⟩ ∧ plungerTable[0 + 1]? = some ⟨1000, 8100⟩ := by decide

theorem witness_PlanningsFormTheTargetUnderTheirGates :
    (measured.runState = .run ∧ measured.topo.groupOf[(0 : Group)] = 0 ∧ (measured.topo.group[(0 : Group)]).held = false ∧
        frozen measured 0 = false ∧ (measured.est[(0 : Group)]).value = some ⟨13799, 613⟩ ∧
        (measured.topo.group[(0 : Group)]).members.filter
          (fun c => decide ((measured.topo.coil[c]).mode = .auto ∧ (measured.drive[c]).state ≠ .fault)) = [0, 1]) ∧
      (station.est[(0 : Group)]).value = none ∧ measured.topo.groupOf[(1 : Group)] ≠ 1 ∧
      (measured.settings.deadband < distance 14489 (groupCurrent measured 0) ∧ (planGroup 0 measured).planner.record[(0 : Group)].outcome = .planned ∧
        ((planGroup 0 measured).planner.record[(0 : Group)].alloc.map AllocEntry.coil).Nodup ∧
        ((planGroup 0 measured).planner.record[(0 : Group)].alloc.map AllocEntry.handed) = [.target, .withdrawal]) ∧
      (let s := measured.setEst 0 { validEstimate with value := some ⟨13524, 613⟩ }
       distance 14200 (groupCurrent s 0) ≤ s.settings.deadband ∧ (planGroup 0 s).planner.record[(0 : Group)].outcome = .deadband) := by decide

theorem witness_PlanningsFormTheTargetUnderTheirGates_without_moves_ending :
    (∀ c : Coil, c = 0 ∨ c = 1 → measured.settings.coast[c] ≠ 0) ∧
      (∀ i : ContactNo, (measured.contacts.input[i]).active ≠ some true) ∧
      (planGroup 0 measured).planner.record[(0 : Group)].outcome = .planned := by decide

/-- READ_COIL's allocation (R117): the entry of the last PLANNED planning stands through a later planning that is not PLANNED. -/
theorem test_the_last_planned_entry_stands :
    let a := planGroup 0 measured
    let b := planGroup 0 (a.setEst 0 Estimate.reset)
    (b.planner.record[(0 : Group)]).outcome = .noValue ∧ (b.planner.record[(0 : Group)]).alloc = [] ∧
      (allocationOf b 0).map AllocEntry.pos = some 1996 ∧ (allocationOf b 0).map AllocEntry.share = some 10989 := by decide

theorem witness_AllocationPlacesEveryMovableCoil :
    let ms : List Movable := [⟨0, .plunger, plungerTable⟩, ⟨1, .tapped, tapTable⟩]
    (∀ m ∈ ms, increasing m.table = true ∧ 2 ≤ m.table.length) ∧
      (∀ x ∈ tapTable.zipIdx, x.1.pos = x.2 + 1) ∧ (ms.map Movable.coil).Pairwise (· < ·) ∧
      ((⟨0, .plunger, plungerTable⟩ : Movable).min ≤ 5000 ∧ 20000 ≤ (⟨0, .plunger, plungerTable⟩ : Movable).max) := by decide

theorem witness_StepsKeepTheTopologyLaw :
    topologyLaw cycling = true ∧ availabilityLaw cycling = true ∧ ∃ t, step { cycling with pending := [.couplerSet 1 0 2] } = .next t :=
  ⟨by decide, by decide, ⟨_, rfl⟩⟩

theorem witness_StepsKeepTheTablesLaw :
    tablesLaw loading = true ∧ loadLaw loading = true ∧ ∃ t, step { loading with pending := [.tableCommit 1] } = .next t :=
  ⟨by decide, by decide, ⟨_, rfl⟩⟩

theorem witness_StepsKeepTheCapacities :
    capacityLaw cycling = true ∧ (faultLogLaw inEpisode = true ∧ (openEpisode inEpisode 1).isSome = true) ∧
      capacityLaw { ready with events := { ready.events with queue := List.replicate 32 ⟨.freqHeld, false, 0, none, []⟩ } } = true ∧
      ∃ t, step { cycling with pending := [.restart 1] } = .next t :=
  ⟨by decide, by decide, by decide, ⟨_, rfl⟩⟩

theorem witness_StepsKeepTheOutputLaw :
    outputsLaw (withDrive 0 runningDrive) = true ∧
      ∃ t, step { withDrive 0 runningDrive with pending := [.positionReport 0 2100 true] } = .next t :=
  ⟨by decide, ⟨_, rfl⟩⟩

theorem witness_StepsKeepTheLawOfEpisodesAndDrives :
    (let s := (withDrive 0 runningDrive).setWatch 1 ⟨some ⟨600000, 7100, 1⟩, none, false⟩
     topologyLaw s = true ∧ availabilityLaw s = true ∧ outputsLaw s = true ∧ restLaw s = true ∧ runningLaw s = true ∧
       originLaw s = true) ∧
      ∃ t, step { (withDrive 0 runningDrive).setWatch 1 ⟨some ⟨600000, 7100, 1⟩, none, false⟩ with pending := [.startDwellExpiry 1] } =
        .next t :=
  ⟨by decide, ⟨_, rfl⟩⟩

theorem witness_StepsKeepTheMachineLaw :
    machinesLaw cycling = true ∧
      (topologyLaw cycling = true ∧ availabilityLaw cycling = true ∧ useLaw cycling = true ∧ heldLaw cycling = true ∧
        injectorLaw cycling = true ∧ (cycling.seq.injector[(0 : Coil)]).enable = true ∧ cycling.topo.inUse 1 = false) ∧
      ∃ t, step { cycling with pending := [.cycleBoundary [] true] } = .next t :=
  ⟨by decide, by decide, ⟨_, rfl⟩⟩

end Sys2Proof.Tests
end

/-! # Rounding: the arithmetic of the part against the nearest integer (R1, R6, R10) -/

namespace Sys2Proof.Machine

/-! ## The nearest integer to a quotient -/

/-- The only two forms of a rounded quotient: the magnitudes are divided and the sign of `n` is put back. -/
theorem roundDiv_eq (n : Int) (d : Nat) :
    (0 ≤ n ∧ roundDiv n d = ((2 * n.natAbs + d) / (2 * d) : Nat)) ∨
      (n < 0 ∧ roundDiv n d = -((2 * n.natAbs + d) / (2 * d) : Nat)) := by
  unfold roundDiv
  split
  case isTrue h => exact .inl ⟨h, rfl⟩
  case isFalse h => exact .inr ⟨by omega, rfl⟩

theorem roundDiv_natAbs (n : Int) (d : Nat) : (roundDiv n d).natAbs = (2 * n.natAbs + d) / (2 * d) := by
  obtain ⟨-, h⟩ | ⟨-, h⟩ := roundDiv_eq n d
  · rw [h, Int.natAbs_natCast]
  · rw [h, Int.natAbs_neg, Int.natAbs_natCast]

/-- The error of a rounded quotient is the difference of the magnitudes: the sign plays no part in it. -/
theorem roundDiv_error (n : Int) (d : Nat) :
    (roundDiv n d * d - n).natAbs = (((roundDiv n d).natAbs * d : Nat) - (n.natAbs : Int)).natAbs := by
  rw [roundDiv_natAbs]
  obtain ⟨hn, h⟩ | ⟨hn, h⟩ := roundDiv_eq n d
  · rw [h, ← Int.natCast_mul]
    omega
  · rw [h, Int.neg_mul, ← Int.natCast_mul]
    omega

/-- Adding half a divisor before the division brackets the magnitude; the upper end belongs to it, so a tie goes away from zero. -/
theorem roundDiv_bracket (n : Int) {d : Nat} (hd : 0 < d) :
    2 * ((roundDiv n d).natAbs * d) ≤ 2 * n.natAbs + d ∧ 2 * n.natAbs < 2 * ((roundDiv n d).natAbs * d) + d := by
  have hdiv := Nat.div_add_mod (2 * n.natAbs + d) (2 * d)
  have hmod := Nat.mod_lt (2 * n.natAbs + d) (show 2 * d > 0 by omega)
  rw [← roundDiv_natAbs, Nat.mul_assoc, Nat.mul_comm d] at hdiv
  omega

theorem roundDiv_nearest (n : Int) {d : Nat} (hd : 0 < d) :
    2 * (roundDiv n d * d - n).natAbs ≤ d ∧
      (2 * (roundDiv n d * d - n).natAbs = d → n.natAbs < (roundDiv n d).natAbs * d) := by
  have ⟨hlo, hhi⟩ := roundDiv_bracket n hd
  rw [roundDiv_error]
  omega

/-! ## The integer part of a square root -/

/-- `r` is the integer part of `√n`. -/
def IsRoot (n r : Nat) : Prop := r * r ≤ n ∧ n < (r + 1) * (r + 1)

/-- Each bit choice keeps the root between `r` and `r + 2 ^ k`; with no bit left it is `r`. -/
theorem isqrtAux_isRoot (n k r : Nat) (hlo : r * r ≤ n) (hhi : n < (r + 2 ^ k) * (r + 2 ^ k)) :
    IsRoot n (isqrtAux n k r) := by
  induction k generalizing r with
  | zero => exact ⟨hlo, hhi⟩
  | succ k ih =>
    have hpow : r + 2 ^ (k + 1) = r + 2 ^ k + 2 ^ k := by omega
    unfold isqrtAux
    split
    case isTrue hbit => exact ih _ hbit (hpow ▸ hhi)
    case isFalse hbit => exact ih r hlo (Nat.lt_of_not_le hbit)

theorem isqrt_isRoot (n : Nat) : IsRoot n (isqrt n) := by
  refine isqrtAux_isRoot n _ 0 (Nat.zero_le n) ?_
  calc n < 2 ^ (n.log2 + 1) := Nat.lt_log2_self
    _ ≤ 2 ^ ((n.log2 / 2 + 1) + (n.log2 / 2 + 1)) := Nat.pow_le_pow_right (by decide) (by omega)
    _ = (0 + 2 ^ (n.log2 / 2 + 1)) * (0 + 2 ^ (n.log2 / 2 + 1)) := by rw [Nat.zero_add, Nat.pow_add]

/-! ## The nearest integer to a square root -/

/-- `m` is the nearest integer to `√n`: `m - 1/2 < √n < m + 1/2`, doubled and squared. A tie would make `4 * n` an odd square. -/
def NearestRoot (n m : Nat) : Prop :=
  (m = 0 ∨ (2 * m - 1) * (2 * m - 1) < 4 * n) ∧ 4 * n < (2 * m + 1) * (2 * m + 1)

/-- An odd square is one more than a multiple of four, so between naturals the halfway point `m + 1/2` squares to `m * m + m`. -/
theorem odd_mul_self (m : Nat) : (2 * m + 1) * (2 * m + 1) = 4 * (m * m + m) + 1 := by
  rw [Nat.add_mul, Nat.mul_add, Nat.mul_mul_mul_comm]
  omega

theorem nearestRoot_zero {n : Nat} : NearestRoot n 0 ↔ n = 0 := by
  unfold NearestRoot
  omega

theorem nearestRoot_succ {n m : Nat} :
    NearestRoot n (m + 1) ↔ m * m + m < n ∧ n ≤ (m + 1) * (m + 1) + (m + 1) := by
  have hlow : 2 * (m + 1) - 1 = 2 * m + 1 := by omega
  unfold NearestRoot
  rw [hlow, odd_mul_self m, odd_mul_self (m + 1)]
  omega

/-- Up to the halfway point `m * m + m` above a square `m * m`, the nearest root is `m`. -/
theorem nearestRoot_of_between {n m : Nat} (hlo : m * m ≤ n) (hhi : n ≤ m * m + m) : NearestRoot n m := by
  cases m with
  | zero => exact nearestRoot_zero.mpr (by omega)
  | succ m =>
    have hsquare : (m + 1) * (m + 1) = m * m + m + (m + 1) := by rw [Nat.mul_succ, Nat.succ_mul]
    exact nearestRoot_succ.mpr ⟨by omega, hhi⟩

/-- Past the halfway point `m * m + m` and below the next square, the nearest root is `m + 1`. -/
theorem nearestRoot_succ_of_between {n m : Nat} (hlo : m * m + m < n) (hhi : n < (m + 1) * (m + 1)) :
    NearestRoot n (m + 1) :=
  nearestRoot_succ.mpr ⟨hlo, by omega⟩

theorem NearestRoot.le_mul_self_add {n m : Nat} (h : NearestRoot n m) : n ≤ m * m + m := by
  cases m with
  | zero => exact Nat.le_of_eq (nearestRoot_zero.mp h)
  | succ m => exact (nearestRoot_succ.mp h).2

/-- The intervals around two different integers are apart. -/
theorem NearestRoot.le {n m k : Nat} (hm : NearestRoot n m) (hk : NearestRoot n k) : m ≤ k := by
  cases m with
  | zero => exact Nat.zero_le k
  | succ m =>
    have habove : m * m + m < n := (nearestRoot_succ.mp hm).1
    have hbelow : n ≤ k * k + k := hk.le_mul_self_add
    have hsquares : k ≤ m → k * k ≤ m * m := fun h => Nat.mul_le_mul h h
    omega

theorem NearestRoot.unique {n m k : Nat} (hm : NearestRoot n m) (hk : NearestRoot n k) : m = k :=
  Nat.le_antisymm (hm.le hk) (hk.le hm)

/-- Above the halfway point `s * s + s` the root's integer part `s` goes up, otherwise it stays. -/
theorem roundSqrt_nearestRoot (n : Nat) : NearestRoot n (roundSqrt n) := by
  obtain ⟨hlo, hhi⟩ := isqrt_isRoot n
  unfold roundSqrt
  split
  case isTrue h => exact nearestRoot_succ_of_between h hhi
  case isFalse h => exact nearestRoot_of_between hlo (Nat.le_of_not_lt h)

theorem roundSqrt_eq_iff {n m : Nat} : roundSqrt n = m ↔ NearestRoot n m :=
  ⟨fun h => h ▸ roundSqrt_nearestRoot n, fun h => (roundSqrt_nearestRoot n).unique h⟩

/-! ## A phasor referred to itself -/

/-- Half the root of `4 * n`, rounded up: the form in which `roundDivSqrt` finds the nearest root. The root of `4 * n` decides the
side of the halfway point by its parity, and an odd one is never exact. -/
theorem half_root_nearestRoot {n t : Nat} (h : IsRoot (4 * n) t) : NearestRoot n ((t + 1) / 2) := by
  obtain ⟨hlo, hhi⟩ := h
  have hdouble (m : Nat) : (2 * m) * (2 * m) = 4 * (m * m) := Nat.mul_mul_mul_comm 2 m 2 m
  obtain hpar | hpar := Nat.mod_two_eq_zero_or_one t
  case inl =>
    obtain ⟨m, rfl⟩ : ∃ m, t = 2 * m := ⟨t / 2, by omega⟩
    have hhalf : (2 * m + 1) / 2 = m := by omega
    rw [hdouble] at hlo
    rw [odd_mul_self] at hhi
    rw [hhalf]
    exact nearestRoot_of_between (by omega) (by omega)
  case inr =>
    obtain ⟨m, rfl⟩ : ∃ m, t = 2 * m + 1 := ⟨t / 2, by omega⟩
    have hhalf : (2 * m + 1 + 1) / 2 = m + 1 := by omega
    have hnext : 2 * m + 1 + 1 = 2 * (m + 1) := by omega
    rw [odd_mul_self] at hlo
    rw [hnext, hdouble] at hhi
    rw [hhalf]
    exact nearestRoot_succ_of_between (by omega) (by omega)

theorem roundDivSqrt_natCast (a n : Nat) : roundDivSqrt a n = ((isqrt (4 * a * a / n) + 1) / 2 : Nat) := by
  unfold roundDivSqrt
  rw [if_pos (Int.natCast_nonneg a), Int.natAbs_natCast]
  rfl

/-- `n / √n` is `√n`. -/
theorem roundDivSqrt_self {n : Nat} (hn : 0 < n) : roundDivSqrt n n = roundSqrt n := by
  have hroot : roundSqrt n = (isqrt (4 * n) + 1) / 2 := roundSqrt_eq_iff.mpr (half_root_nearestRoot (isqrt_isRoot (4 * n)))
  rw [roundDivSqrt_natCast, Nat.mul_div_cancel _ hn, hroot]

theorem roundDivSqrt_zero (n : Nat) : roundDivSqrt 0 n = 0 := by
  have hzero : 4 * 0 * 0 / n = 0 := Nat.zero_div n
  have hroot : isqrt 0 = 0 := by decide
  have h := roundDivSqrt_natCast 0 n
  rw [hzero, hroot] at h
  exact h

theorem Phasor.normSq_cast (p : Phasor) : (p.normSq : Int) = p.re * p.re + p.im * p.im := by
  unfold Phasor.normSq
  rw [Int.natCast_add, Int.natAbs_mul_self, Int.natAbs_mul_self]

theorem Phasor.referExact_self {r : Phasor} (hr : 0 < r.normSq) : Phasor.referExact r r = ⟨roundSqrt r.normSq, 0⟩ := by
  unfold Phasor.referExact
  rw [← Phasor.normSq_cast, roundDivSqrt_self hr, Int.mul_comm r.im, Int.sub_self, roundDivSqrt_zero]

/-- Settles O32: the quotient by its bracket, the root by the one interval of `NearestRoot` that holds it, and UREF referred to
itself because the quotient of its square and its root is its root. -/
theorem arithmeticRoundsToNearest : Obligations.ArithmeticRoundsToNearest :=
  ⟨fun n _ hd => roundDiv_nearest n hd, fun _ _ => roundSqrt_eq_iff, fun _ hr => Phasor.referExact_self hr⟩

end Sys2Proof.Machine

/-! # RESTART (R18, R56, R85, R100, R119, R143, R159, R193, R198) -/

namespace Sys2Proof.Machine

/-! ## Operations that each write the one item of their number -/

/-- A list of different numbers, each operation writing its own item with `w` and no operation touching the fixed fields: the items
of the list are written, the others stand. -/
theorem forEach_item {α : Type} {item : State → Fin 4 → α} {w : Fin 4 → α → α} {f : Fin 4 → State → State} {s₀ : State}
    (hfixed : ∀ x s, (f x s).fixed = s.fixed)
    (hitem : ∀ x y s, s.fixed = s₀.fixed → item (f x s) y = if x = y then w y (item s y) else item s y)
    {xs : List (Fin 4)} (hxs : xs.Nodup) {s : State} (hs : s.fixed = s₀.fixed) (y : Fin 4) :
    item (forEach xs f s) y = if y ∈ xs then w y (item s y) else item s y := by
  unfold forEach
  induction xs generalizing s with
  | nil => simp
  | cons x xs ih =>
    obtain ⟨hx, hxs⟩ := List.nodup_cons.mp hxs
    rw [List.foldl_cons, ih hxs ((hfixed x s).trans hs), hitem x y s hs]
    by_cases hxy : x = y
    · subst hxy
      simp [hx]
    · simp [hxy, Ne.symm hxy]

theorem four_nodup : four.Nodup := by decide

theorem mem_four : ∀ x : Fin 4, x ∈ four := by decide

theorem Topology.groups_nodup (t : Topology) : t.groups.Nodup := four_nodup.filter _

theorem Topology.mem_groups {t : Topology} {g : Group} : g ∈ t.groups ↔ t.inUse g = true := by
  simp [Topology.groups, mem_four]

/-! ## What the aborts of leaving RUN leave to the restart -/

/-- A restarted event unit does not show what arrived before (R193). -/
theorem arrive_restarted (k : EventKind) (subject : Option Nat) (values : List (Option Int)) (time : Nat) (u : EventUnit) :
    (u.arrive k subject values time).restarted = u.restarted := by
  unfold EventUnit.arrive EventUnit.enqueue EventUnit.latch
  split
  · rfl
  · split <;> rfl

theorem raiseEvent_restarted (k : EventKind) (subject : Option Nat) (values : List (Option Int)) (s : State) :
    (raiseEvent k subject values s).events.restarted = s.events.restarted := arrive_restarted ..

/-- Switching an injector off is nothing that a later switch-off of all does not do (R38). -/
theorem injectorOff_map_off (c : Coil) (g : Group) (s : State) :
    (injectorOff c g s).seq.injector.map Injector.off = s.seq.injector.map Injector.off := by
  ext i hi
  by_cases h : c.val = i
  · subst h
    simp [injectorOff, Injector.off]
  · simp [injectorOff, Vector.getElem_set_ne, h]

/-- What none of its parts touches, an abort does not. -/
theorem abortCycle_keeps {β : Type} (p : State → β) (hoff : ∀ c g s, p (injectorOff c g s) = p s)
    (hmachine : ∀ g m s, p (State.setMachine g m s) = p s) (hhistory : ∀ r s, p (appendHistory r s) = p s)
    (hest : ∀ g e s, p (State.setEst g e s) = p s) (hraise : ∀ k u v s, p (raiseEvent k u v s) = p s) (g : Group)
    (o : CycleOutcome) (s : State) : p (abortCycle g o s) = p s := by
  unfold abortCycle
  split
  · rfl
  · split
    · simp only [restartPeriodic, hoff, hmachine, hhistory, hest, hraise]
    · rfl

theorem abortCycle_restarted (g : Group) (o : CycleOutcome) (s : State) :
    (abortCycle g o s).events.restarted = s.events.restarted :=
  abortCycle_keeps (fun u => u.events.restarted) (fun _ _ _ => rfl) (fun _ _ _ => rfl) (fun _ _ => rfl) (fun _ _ _ => rfl)
    raiseEvent_restarted g o s

theorem abortCycle_map_off (g : Group) (o : CycleOutcome) (s : State) :
    (abortCycle g o s).seq.injector.map Injector.off = s.seq.injector.map Injector.off :=
  abortCycle_keeps (fun u => u.seq.injector.map Injector.off) injectorOff_map_off (fun _ _ _ => rfl) (fun _ _ => rfl)
    (fun _ _ _ => rfl) (fun _ _ _ _ => rfl) g o s

theorem abortCycle_decisions (g : Group) (o : CycleOutcome) (s : State) :
    (abortCycle g o s).seq.decisions = s.seq.decisions :=
  abortCycle_keeps (fun u => u.seq.decisions) (fun _ _ _ => rfl) (fun _ _ _ => rfl) (fun _ _ => rfl) (fun _ _ _ => rfl)
    (fun _ _ _ _ => rfl) g o s

/-- The part as the blocks' restarts find it (R198): out of RUN its cycles have been aborted. -/
def leftRun (s : State) : State := if s.runState = .run then abortAll .abortedStop { s with runState := .setup } else s

/-- What no abort touches, leaving RUN does not. -/
theorem leftRun_keeps {β : Type} (p : State → β) (habort : ∀ g s, p (abortCycle g .abortedStop s) = p s) (s : State)
    (hrun : p { s with runState := .setup } = p s) : p (leftRun s) = p s := by
  unfold leftRun
  split
  · exact (forEach_keeps p _ habort four _).trans hrun
  · rfl

theorem leftRun_fixed (s : State) : (leftRun s).fixed = { s.fixed with runState := (leftRun s).runState } :=
  leftRun_keeps (fun u => ({ u.fixed with runState := (leftRun s).runState } : Fixed)) (fun g u => by simp) s rfl

/-! ## The blocks' restarts -/

/-- A drive after RESTART (R143), with the interval timer that the end of a move would start and the part time. -/
def Drive.restarted (interval : Timer) (now : Nat) (d : Drive) : Drive :=
  if d.state = .fault then d
  else
    { Drive.reset with
      inputCode := d.inputCode
      inputValid := d.inputValid
      position := d.position
      feedback := d.feedback
      interval := if d.state.moving then interval else d.interval
      last := if d.state.moving then
          some ⟨.interrupted, none, d.position, d.running.map Target.pos, d.running.map Target.origin, now⟩
        else d.last }

theorem restartDrive_eq (c : Coil) (s : State) :
    restartDrive c s = s.setDrive c ((s.drive[c]).restarted (intervalTimer s c) s.time) := by
  unfold restartDrive Drive.restarted
  dsimp only
  split
  · simp [State.setDrive]
  · rfl

/-- What no write of a drive touches, the restart of the drives does not. -/
theorem restartDrives_keeps {β : Type} (p : State → β) (h : ∀ c d s, p (State.setDrive c d s) = p s) (s : State) :
    p (forEach four restartDrive s) = p s :=
  forEach_keeps p _ (fun c u => by rw [restartDrive_eq, h]) four s

theorem restartDrives_drive (s : State) (c : Coil) :
    (forEach four restartDrive s).drive[c] = (s.drive[c]).restarted (intervalTimer s c) s.time := by
  have h := forEach_item (item := fun u c => u.drive[c]) (w := fun c d => d.restarted (intervalTimer s c) s.time)
    (f := restartDrive) (s₀ := s) (fun c u => by rw [restartDrive_eq, State.setDrive_fixed])
    (fun c d u hu => by
      have htime : u.time = s.time := congrArg Fixed.time hu
      have hset : u.settings = s.settings := congrArg Fixed.settings hu
      rw [restartDrive_eq]
      by_cases hcd : c = d
      · subst hcd
        simp [htime, intervalTimer, hset]
      · simp [hcd, Fin.val_inj, Vector.getElem_set_ne])
    four_nodup (s := s) rfl c
  rw [h, if_pos (mem_four c)]

/-- What no write of the machines and injectors touches, the sequencer's restart does not. -/
theorem restartSequencer_keeps {β : Type} (p : State → β) (hmachine : ∀ g m s, p (State.setMachine g m s) = p s) (s : State)
    (hrest : p { s with seq := { s.seq with
      machine := Vector.replicate 4 CycleMachine.rest, injector := s.seq.injector.map Injector.off } } = p s) :
    p (restartSequencer s) = p s :=
  (forEach_keeps p _ (fun g u => hmachine g _ u) _ _).trans hrest

/-- The machines after RESTART (R56): at rest, the periodic timer of a group in use restarted. -/
theorem restartSequencer_machine (s : State) (g : Group) :
    (restartSequencer s).seq.machine[g] =
      if s.topo.inUse g = true then { CycleMachine.rest with periodic := periodicTimer s } else CycleMachine.rest := by
  have h := forEach_item (item := fun u g => u.seq.machine[g]) (w := fun _ m => { m with periodic := periodicTimer s })
    (f := restartPeriodic) (s₀ := s) restartPeriodic_fixed
    (fun x y u hu => by
      have hset : u.settings = s.settings := congrArg Fixed.settings hu
      by_cases hxy : x = y
      · subst hxy
        simp [restartPeriodic, periodicTimer, hset]
      · simp [restartPeriodic, hxy, Fin.val_inj, Vector.getElem_set_ne])
    s.topo.groups_nodup
    (s := { s with seq := { s.seq with
      machine := Vector.replicate 4 CycleMachine.rest, injector := s.seq.injector.map Injector.off } }) rfl g
  simpa [restartSequencer, Topology.mem_groups] using h

theorem restartSequencer_injector (s : State) : (restartSequencer s).seq.injector = s.seq.injector.map Injector.off :=
  forEach_keeps (fun u => u.seq.injector) _ restartPeriodic_seq_injector _ _

theorem EpisodeRecord.restarted_eq (now : Nat) (e : EpisodeRecord) :
    e.restarted now =
      if e.outcome = .opened ∨ e.outcome = .persistent then
        { e with outcome := .restarted, endTime := some now, persistence := none }
      else e := by
  simp [EpisodeRecord.restarted, EpisodeRecord.isOpen]

/-! ## The whole effect of RESTART -/

/-- The sequencer and the drives restarted, out of RUN: what the other blocks' restarts find. -/
def restartedMoves (s : State) : State := forEach four restartDrive (restartSequencer (leftRun s))

/-- The restarts of the other blocks: one write of each block's own fields (R18, R85, R100, R119, R159, R193, R198). -/
def restartedRecords (u : State) : State :=
  { u with
    runState := .setup
    est := u.est.map Estimate.restarted
    sup := { u.sup with
      watch := Vector.replicate 4 ⟨none, none, false⟩
      hold := Vector.replicate 4 none
      log := u.sup.log.map (EpisodeRecord.restarted u.time) }
    tracker := { u.tracker with history := [], period := none }
    reg := { u.reg with list := Vector.replicate 4 ⟨[], false⟩ }
    planner := { u.planner with record := Vector.replicate 4 PlanRecord.reset }
    link := { u.link with load := none }
    events := u.events.restarted }

@[simp] theorem restartedRecords_seq (u : State) : (restartedRecords u).seq = u.seq := rfl
@[simp] theorem restartedRecords_drive (u : State) : (restartedRecords u).drive = u.drive := rfl

theorem restartEffect_eq (s : State) : restartEffect s = restartedRecords (restartedMoves s) := by
  unfold restartEffect restartBlocks restartedMoves leftRun
  dsimp only
  generalize forEach four restartDrive (restartSequencer
    (if s.runState = .run then abortAll .abortedStop { s with runState := .setup } else s)) = u
  rfl

theorem restartedMoves_drives {β : Type} (p : State → β) (hdrive : ∀ c d u, p (State.setDrive c d u) = p u) (s : State) :
    p (restartedMoves s) = p (restartSequencer (leftRun s)) := restartDrives_keeps p hdrive _

/-- What aborts, machines, injectors and drives do not touch, these restarts do not. -/
theorem restartedMoves_keeps {β : Type} (p : State → β) (s : State) (hrun : p { s with runState := .setup } = p s)
    (habort : ∀ g u, p (abortCycle g .abortedStop u) = p u) (hdrive : ∀ c d u, p (State.setDrive c d u) = p u)
    (hmachine : ∀ g m u, p (State.setMachine g m u) = p u)
    (hrest : ∀ u : State, p { u with seq := { u.seq with
      machine := Vector.replicate 4 CycleMachine.rest, injector := u.seq.injector.map Injector.off } } = p u) :
    p (restartedMoves s) = p s :=
  calc p (restartedMoves s)
    _ = p (restartSequencer (leftRun s)) := restartedMoves_drives p hdrive s
    _ = p (leftRun s) := restartSequencer_keeps p hmachine _ (hrest _)
    _ = p s := leftRun_keeps p habort s hrun

theorem restartedMoves_topo (s : State) : (restartedMoves s).topo = s.topo :=
  restartedMoves_keeps (fun u => u.topo) s rfl (abortCycle_topo · _) (fun _ _ _ => rfl) (fun _ _ _ => rfl) (fun _ => rfl)

theorem restartedMoves_reg (s : State) : (restartedMoves s).reg = s.reg :=
  restartedMoves_keeps (fun u => u.reg) s rfl (abortCycle_reg · _) (fun _ _ _ => rfl) (fun _ _ _ => rfl) (fun _ => rfl)

theorem restartedMoves_sup (s : State) : (restartedMoves s).sup = s.sup :=
  restartedMoves_keeps (fun u => u.sup) s rfl (abortCycle_sup · _) (fun _ _ _ => rfl) (fun _ _ _ => rfl) (fun _ => rfl)

theorem restartedMoves_events (s : State) : (restartedMoves s).events.restarted = s.events.restarted :=
  restartedMoves_keeps (fun u => u.events.restarted) s rfl (abortCycle_restarted · _) (fun _ _ _ => rfl)
    (fun _ _ _ => rfl) (fun _ => rfl)

theorem restartedMoves_decisions (s : State) : (restartedMoves s).seq.decisions = s.seq.decisions :=
  restartedMoves_keeps (fun u => u.seq.decisions) s rfl (abortCycle_decisions · _) (fun _ _ _ => rfl)
    (fun _ _ _ => rfl) (fun _ => rfl)

/-- The fields that only requests, the tracker and the clock write stand but for the run state. -/
theorem restartedMoves_fixed (s : State) : { (restartedMoves s).fixed with runState := s.runState } = s.fixed :=
  restartedMoves_keeps (fun u => ({ u.fixed with runState := s.runState } : Fixed)) s rfl
    (fun g u => congrArg (fun f : Fixed => ({ f with runState := s.runState } : Fixed)) (abortCycle_fixed g _ u))
    (fun _ _ _ => rfl) (fun _ _ _ => rfl) (fun _ => rfl)

theorem leftRun_settings (s : State) : (leftRun s).settings = s.settings := congrArg Fixed.settings (leftRun_fixed s)

theorem leftRun_topo (s : State) : (leftRun s).topo = s.topo := leftRun_keeps (fun u => u.topo) (abortCycle_topo · _) s rfl

theorem restartedMoves_injector (s : State) : (restartedMoves s).seq.injector = s.seq.injector.map Injector.off :=
  calc (restartedMoves s).seq.injector
    _ = (restartSequencer (leftRun s)).seq.injector := restartedMoves_drives (fun u => u.seq.injector) (fun _ _ _ => rfl) s
    _ = (leftRun s).seq.injector.map Injector.off := restartSequencer_injector _
    _ = s.seq.injector.map Injector.off :=
      leftRun_keeps (fun u => u.seq.injector.map Injector.off) (abortCycle_map_off · _) s rfl

theorem restartedMoves_machine (s : State) (g : Group) :
    (restartedMoves s).seq.machine[g] =
      if s.topo.inUse g = true then { CycleMachine.rest with periodic := periodicTimer s } else CycleMachine.rest := by
  have hdrives : (restartedMoves s).seq.machine = (restartSequencer (leftRun s)).seq.machine :=
    restartedMoves_drives (fun u => u.seq.machine) (fun _ _ _ => rfl) s
  have htimer : periodicTimer (leftRun s) = periodicTimer s := by
    unfold periodicTimer
    rw [leftRun_settings]
  rw [hdrives, restartSequencer_machine, leftRun_topo, htimer]

theorem restartedMoves_drive (s : State) (c : Coil) :
    (restartedMoves s).drive[c] = (s.drive[c]).restarted (intervalTimer s c) s.time := by
  have hfixed : (restartSequencer (leftRun s)).fixed = (leftRun s).fixed :=
    restartSequencer_keeps (fun u => u.fixed) (fun _ _ _ => rfl) _ rfl
  have hdrive : (restartSequencer (leftRun s)).drive = s.drive :=
    (restartSequencer_keeps (fun u => u.drive) (fun _ _ _ => rfl) _ rfl).trans
      (leftRun_keeps (fun u => u.drive) (abortCycle_drive · _) s rfl)
  have htime : (restartSequencer (leftRun s)).time = s.time := congrArg Fixed.time (hfixed.trans (leftRun_fixed s))
  have hsettings : (restartSequencer (leftRun s)).settings = s.settings :=
    congrArg Fixed.settings (hfixed.trans (leftRun_fixed s))
  have hinterval : intervalTimer (restartSequencer (leftRun s)) c = intervalTimer s c := by
    unfold intervalTimer
    rw [hsettings]
  unfold restartedMoves
  rw [restartDrives_drive, htime, hinterval, hdrive]

/-- Only the aborts of leaving RUN write history records (R190). -/
theorem restartedMoves_ring {s : State} (h : s.runState ≠ .run) : (restartedMoves s).ring = s.ring := by
  have hleft : leftRun s = s := if_neg h
  have hmoves : (restartedMoves s).ring = (leftRun s).ring :=
    (restartedMoves_drives (fun u => u.ring) (fun _ _ _ => rfl) s).trans
      (restartSequencer_keeps (fun u => u.ring) (fun _ _ _ => rfl) _ rfl)
  rw [hmoves, hleft]

/-- RESTART taken (R173, R198): the restarts, and the run state SETUP in the reply. -/
theorem exec_restart {s : State} (h : Taking s) (tag : Nat) :
    exec (.restart tag) s = .next (withReply 0x3A tag .ok (be 1 1) (restartedRecords (restartedMoves s))) := by
  obtain ⟨hfree, hready⟩ := h
  have hserve : serveRestart tag s = withReply 0x3A tag .ok (be 1 1) (restartedRecords (restartedMoves s)) := by
    unfold serveRestart
    rw [whenReady_of_ready hready, serve_ok hfree, restartEffect_eq]
    rfl
  exact congrArg _ hserve

/-! ## What each block's restart shows -/

theorem restartedRecords_group (s : State) (g : Group) :
    let t := restartedRecords (restartedMoves s)
    t.seq.machine[g] = ⟨.idle, false,
      if s.topo.inUse g = true ∧ s.settings.periodic ≠ 0 then some (s.settings.periodic * 1000) else none, none, false, none⟩ ∧
    { t.est[g] with sinceOff := none } = Estimate.reset ∧ t.reg.list[g] = ⟨[], false⟩ ∧
    t.planner.record[g] = PlanRecord.reset ∧ t.sup.watch[g] = ⟨none, none, false⟩ ∧ t.sup.hold[g] = none := by
  simp only [restartedRecords_seq, restartedMoves_machine]
  refine ⟨?_, ?_, ?_, ?_, ?_, ?_⟩
  · unfold periodicTimer secondsTimer CycleMachine.rest
    by_cases huse : s.topo.inUse g = true
    · by_cases hzero : s.settings.periodic = 0 <;> simp [huse, hzero]
    · simp [huse]
  · simp only [restartedRecords, Fin.getElem_fin, Vector.getElem_map, Estimate.restarted]
    rfl
  all_goals simp [restartedRecords]

theorem restartedRecords_injector (s : State) (c : Coil) :
    (restartedRecords (restartedMoves s)).seq.injector[c] =
      ⟨(s.seq.injector[c]).available, (s.seq.injector[c]).effective, false, false, (s.seq.injector[c]).effective⟩ := by
  rw [restartedRecords_seq, restartedMoves_injector]
  simp [Injector.off]

/-- R143 by the drive's state: FAULT stays; every other drive is IDLE with no target, and a move ends as INTERRUPTED. -/
theorem Drive.restarted_cases (interval : Timer) (now : Nat) (d : Drive) :
    (d.state = .fault → d.restarted interval now = d) ∧
      (d.state ≠ .fault →
        let r := d.restarted interval now
        r.state = .idle ∧ r.pending = none ∧ r.running = none ∧ r.raiseOut = false ∧ r.lowerOut = false ∧
          r.position = d.position ∧ r.feedback = d.feedback ∧
          (d.state.moving = true → r.last.map MoveResult.result = some .interrupted ∧ r.interval = interval) ∧
          (d.state.moving = false → r.last = d.last ∧ r.interval = d.interval)) := by
  unfold Drive.restarted
  refine ⟨fun h => if_pos h, fun h => ?_⟩
  rw [if_neg h]
  refine ⟨rfl, rfl, rfl, rfl, rfl, rfl, rfl, fun hm => ?_, fun hm => ?_⟩ <;> simp [hm]

/-- Settles O28: the aborts of leaving RUN touch only what the restarts then overwrite, each machine, drive and injector is written
once, and the other blocks' restarts are one write of their own fields. -/
theorem restartGivesEveryBlockItsRestartState : Obligations.RestartGivesEveryBlockItsRestartState := by
  intro tag s htaking
  have hexec := exec_restart htaking tag
  have hgroup := restartedRecords_group s
  have hinjector := restartedRecords_injector s
  have hdrive := restartedMoves_drive s
  have hfixed := restartedMoves_fixed s
  have hevents := restartedMoves_events s
  have hreg := restartedMoves_reg s
  have hsup := restartedMoves_sup s
  have hdecisions := restartedMoves_decisions s
  have htopo := restartedMoves_topo s
  have hring : s.runState = .setup → (restartedMoves s).ring = s.ring := fun h => restartedMoves_ring (by simp [h])
  generalize restartedMoves s = u at *
  have htime : u.time = s.time := congrArg Fixed.time hfixed
  have htracker : u.tracker = s.tracker := congrArg Fixed.tracker hfixed
  have hlink : u.link = s.link := congrArg Fixed.link hfixed
  refine ⟨restartedRecords u, hexec, rfl, hgroup, fun c => ⟨hinjector c, ?_⟩, ?_, hevents, ?_, ?_, ?_,
    congrArg Fixed.table hfixed, congrArg Fixed.setpoint hfixed, ?_, hdecisions, htopo, congrArg Fixed.settings hfixed,
    congrArg Fixed.contacts hfixed, congrArg Fixed.acq hfixed, htime, hring⟩
  · rw [restartedRecords_drive, hdrive]
    exact Drive.restarted_cases ..
  · simp [restartedRecords, hsup, htime, EpisodeRecord.restarted_eq]
  · simp only [restartedRecords, htracker]
  · simp only [restartedRecords, hlink]
  · simp only [restartedRecords, hreg]
  · simp only [restartedRecords, hsup]

end Sys2Proof.Machine

/-! # The frequency tracker (R11 to R15) -/

namespace Sys2Proof.Machine

/-! ## The FREQ_HELD condition (R14) -/

theorem Tracker.with_held {k : Tracker} {b : Bool} (h : k.held = b) : { k with held := b } = k := by
  rw [← h]

/-- FREQ_HELD is set in any case; the event is raised when the condition was clear. -/
theorem setFreqHeld_eq (s : State) :
    setFreqHeld s =
      { s with
        tracker := { s.tracker with held := true }
        events := if s.tracker.held = true then s.events
          else afterEvent .freqHeld (s.tracker.source.map Fin.val) [some 1] s } := by
  unfold setFreqHeld
  split
  case isTrue h => simp only [Tracker.with_held h]
  case isFalse => rfl

/-- FREQ_HELD is cleared in any case; the event is raised when the condition was set. -/
theorem clearFreqHeld_eq (s : State) :
    clearFreqHeld s =
      { s with
        tracker := { s.tracker with held := false }
        events := if s.tracker.held = true then afterEvent .freqHeld (s.tracker.source.map Fin.val) [some 0] s
          else s.events } := by
  unfold clearFreqHeld
  split
  case isTrue => rfl
  case isFalse h => simp only [Tracker.with_held (eq_false_of_ne_true h)]

/-! ## The end of a period (R12 to R15) -/

theorem invalidPeriod_eq (s : State) :
    invalidPeriod s =
      { s with
        tracker := { s.tracker with history := [], held := true }
        events := if s.tracker.held = true then s.events
          else afterEvent .freqHeld (s.tracker.source.map Fin.val) [some 1] s } := by
  unfold invalidPeriod
  rw [setFreqHeld_eq]
  rfl

/-- Fewer than four frequencies set nothing yet (R13). -/
theorem enterPeriod_of_ne {f : Nat} {s : State} (h : (appendPeriod f s.tracker.history).length ≠ 4) :
    enterPeriod f s = { s with tracker := { s.tracker with history := appendPeriod f s.tracker.history } } := by
  unfold enterPeriod
  exact if_neg h

/-- The fourth frequency sets f_used to the mean of the four and the count with it (R13 to R15). -/
theorem enterPeriod_of_four {f a b c d : Nat} {s : State} (h : appendPeriod f s.tracker.history = [a, b, c, d]) :
    enterPeriod f s =
      (let used := (roundDiv ((a : Int) + b + c + d) 4).toNat
       { s with
         tracker := ⟨s.tracker.source, [a, b, c, d], s.tracker.period, used, sampleCount used, false⟩
         events := if s.tracker.held = true then afterEvent .freqHeld (s.tracker.source.map Fin.val) [some 0] s
           else s.events }) := by
  have hsum : ((sumNat [a, b, c, d] : Nat) : Int) = a + b + c + d := by simp [sumNat]
  unfold enterPeriod
  simp only [h, hsum, clearFreqHeld_eq]
  rfl

/-! ## The crossing and the timeout (R12) -/

theorem crossing_without_source {s : State} (h : s.tracker.source = none) (n : Nat) : crossing n s = s := by
  unfold crossing
  simp [h]

theorem crossing_first {s : State} (h : s.tracker.source ≠ none) (hp : s.tracker.period = none) (n : Nat) :
    crossing n s = { s with tracker := { s.tracker with period := some 0 } } := by
  unfold crossing
  simp [h, hp]

/-- A crossing that ends a period judges it and starts the next one. -/
theorem crossing_next {s : State} (h : s.tracker.source ≠ none) (hp : s.tracker.period ≠ none) (n : Nat) :
    crossing n s =
      (let u := if validPeriod s.settings.nominal n = true then enterPeriod (periodFrequency n) s else invalidPeriod s
       { u with tracker := { u.tracker with period := some 0 } }) := by
  obtain ⟨p, hp⟩ := Option.ne_none_iff_exists'.mp hp
  unfold crossing
  simp [h, hp]

theorem validPeriod_iff (nominal n : Nat) :
    validPeriod nominal n = true ↔
      0 < n ∧ n ≤ longestPeriod nominal ∧ nominal * 1000 - 5000 ≤ periodFrequency n ∧
        periodFrequency n ≤ nominal * 1000 + 5000 := by
  simp [validPeriod, and_assoc]

theorem exec_zeroCrossing (n : Nat) (s : State) : exec (.zeroCrossing n) s = .next (crossing n s) := rfl

theorem exec_periodTimeout (s : State) :
    exec .periodTimeout s =
      .next (if s.tracker.period.isNone then s
        else invalidPeriod { s with tracker := { s.tracker with period := none } }) := rfl

/-- Settles O34: a crossing by the period it ends (none, invalid, valid with fewer than four frequencies or with four), a timeout by
whether a period is in progress. -/
theorem zeroCrossingsTimeTheFrequency : Obligations.ZeroCrossingsTimeTheFrequency := by
  intro n s k f valid kept event
  have hvalid : validPeriod s.settings.nominal n = true ↔ valid := validPeriod_iff s.settings.nominal n
  rw [exec_zeroCrossing, exec_periodTimeout]
  refine ⟨fun hsource => ?_, fun hsource hperiod => ?_, fun hsource hperiod => ⟨fun hbad => ?_, fun hgood hfew => ?_,
    fun hgood a b c hkept => ?_⟩, fun hperiod => ?_, fun hperiod => ?_⟩
  · rw [crossing_without_source hsource]
  · rw [crossing_first hsource hperiod]
  · rw [crossing_next hsource hperiod, if_neg (mt hvalid.mp hbad), invalidPeriod_eq]
  · have hentered := enterPeriod_of_ne (s := s) (f := periodFrequency n) hfew
    rw [crossing_next hsource hperiod, if_pos (hvalid.mpr hgood), hentered]
    rfl
  · have hfour : appendPeriod (periodFrequency n) s.tracker.history = [a, b, c, f] := by
      change kept ++ [f] = _
      rw [hkept]
      rfl
    rw [crossing_next hsource hperiod, if_pos (hvalid.mpr hgood), enterPeriod_of_four hfour]
    rfl
  · rw [if_pos (Option.isNone_iff_eq_none.mpr hperiod)]
  · rw [if_neg (mt Option.isNone_iff_eq_none.mp hperiod), invalidPeriod_eq]
    rfl

end Sys2Proof.Machine

/-! # The cycle boundary (R3 to R7, R11, R15) -/

namespace Sys2Proof.Machine

/-! ## The phasors of the closing cycle -/

theorem saturate_eq (x : Int) : saturate x = min 32767 (max (-32767) x) := by
  unfold saturate clampInt
  split
  · omega
  · split <;> omega

theorem Phasor.saturated_eq (p : Phasor) :
    p.saturated = ⟨min 32767 (max (-32767) p.re), min 32767 (max (-32767) p.im)⟩ := by
  unfold Phasor.saturated
  rw [saturate_eq, saturate_eq]

theorem engineering_getElem (s : State) (samples : List (List Int)) (ch : Channel) :
    (engineering s samples)[ch] = (engineeringExact s samples ch).saturated := by
  simp [engineering]

theorem fullScale_iff (x : Int) : fullScale x = true ↔ x = 32767 ∨ x = -32767 ∨ x = -32768 := by
  simp [fullScale, or_assoc]

/-- The three causes of a SATURATED flag (R7): a code at full scale, a limited scaling and a limited reference. -/
theorem saturatedFlag_iff (s : State) (samples : List (List Int)) (eng : Vector Phasor 12) (source : Option Section)
    (ch : Channel) :
    saturatedFlag s samples eng source ch = true ↔
      (∃ x ∈ channelSamples samples ch, x = 32767 ∨ x = -32767 ∨ x = -32768) ∨
        (engineeringExact s samples ch).saturated ≠ engineeringExact s samples ch ∨
        (referred eng source eng[ch]).saturated ≠ referred eng source eng[ch] := by
  simp [saturatedFlag, fullScale_iff, or_assoc]

/-! ## The tracking source (R11, R14) -/

theorem chooseSource_none {eng : Vector Phasor 12} (h : chooseSource eng = none) (q : Section) :
    (eng[urefChannel q]).magnitude < 2000 := by
  have hq := List.find?_eq_none.mp h q (mem_four q)
  simpa using hq

/-- The chosen section reaches the threshold, and no lower one does. -/
theorem chooseSource_some {eng : Vector Phasor 12} {q : Section} (h : chooseSource eng = some q) :
    2000 ≤ (eng[urefChannel q]).magnitude ∧ ∀ r : Section, r < q → (eng[urefChannel r]).magnitude < 2000 := by
  obtain ⟨hq, before, after, hfour, hbefore⟩ := List.find?_eq_some_iff_append.mp h
  refine ⟨of_decide_eq_true hq, fun r hr => ?_⟩
  have hsorted : (before ++ q :: after).Pairwise (· < ·) := hfour ▸ (by decide : four.Pairwise (· < ·))
  have hmem : r ∈ before ++ q :: after := hfour ▸ mem_four r
  have hr' : r ∈ before := by
    rcases List.mem_append.mp hmem with hb | ha
    · exact hb
    · rcases List.mem_cons.mp ha with rfl | hafter
      · exact absurd hr (Fin.lt_irrefl _)
      · have hgt := List.rel_of_pairwise_cons (List.pairwise_append.mp hsorted).2.1 hafter
        exact absurd hr (Fin.lt_asymm hgt)
  simpa using hbefore r hr'

/-- The tracker with the source of the closing cycle: a change empties history and period, and no source sets FREQ_HELD. -/
def Tracker.withSource (source : Option Section) (k : Tracker) : Tracker :=
  { k with
    source := source
    history := if k.source = source then k.history else []
    period := if k.source = source then k.period else none
    held := source.isNone || k.held }

theorem takeSource_eq (source : Option Section) (s : State) :
    takeSource source s =
      { s with
        tracker := s.tracker.withSource source
        events := if source = none ∧ s.tracker.held = false then afterEvent .freqHeld none [some 1] s else s.events } := by
  have hchange :
      (if s.tracker.source = source then s
        else { s with tracker := { s.tracker with source := source, history := [], period := none } }) =
      { s with tracker := { s.tracker with
          source := source
          history := if s.tracker.source = source then s.tracker.history else []
          period := if s.tracker.source = source then s.tracker.period else none } } := by
    split
    case isTrue h => subst h; rfl
    case isFalse => rfl
  unfold takeSource
  rw [hchange]
  cases source with
  | some q => rfl
  | none =>
    dsimp only [Option.isNone_none, if_true]
    rw [setFreqHeld_eq]
    cases hheld : s.tracker.held <;> simp [afterEvent, Tracker.withSource]

/-- The rules of the source as one tracker that takes it from the engineering phasors shows them (R11, R14). -/
theorem Tracker.withSource_chosen {eng : Vector Phasor 12} {k k' : Tracker} (h : k' = k.withSource (chooseSource eng)) :
    (∀ q : Section, k'.source = some q →
      2000 ≤ (eng[urefChannel q]).magnitude ∧ ∀ r : Section, r < q → (eng[urefChannel r]).magnitude < 2000) ∧
    (k'.source = none → (∀ q : Section, (eng[urefChannel q]).magnitude < 2000) ∧ k'.held = true) ∧
    (k'.source = k.source → k'.history = k.history ∧ k'.period = k.period) ∧
    (k'.source ≠ k.source → k'.history = [] ∧ k'.period = none) ∧
    k'.fUsed = k.fUsed ∧ k'.count = k.count := by
  have hsource : k'.source = chooseSource eng := h ▸ rfl
  refine ⟨fun q hq => chooseSource_some (hsource ▸ hq), fun hn => ⟨chooseSource_none (hsource ▸ hn), ?_⟩, fun hs => ?_,
    fun hs => ?_, h ▸ rfl, h ▸ rfl⟩
  · rw [hsource] at hn
    simp [h, withSource, hn]
  · rw [hsource] at hs
    simp [h, withSource, ← hs]
  · rw [hsource] at hs
    simp [h, withSource, Ne.symm hs]

/-! ## What the acquisition unit publishes -/

theorem acquire_eq (samples : List (List Int)) (s : State) :
    acquire samples s = { takeSource (chooseSource (engineering s samples)) s with acq := (acquire samples s).acq } := rfl

theorem acquire_tracker (samples : List (List Int)) (s : State) :
    (acquire samples s).tracker =
      s.tracker.withSource (chooseSource (engineering s samples)) := by
  have h := congrArg State.tracker (acquire_eq samples s)
  rw [takeSource_eq] at h
  exact h

theorem acquire_source (samples : List (List Int)) (s : State) :
    (acquire samples s).tracker.source = chooseSource (engineering s samples) := by
  rw [acquire_tracker, Tracker.withSource]

theorem acquire_latchedCount (samples : List (List Int)) (s : State) :
    (acquire samples s).acq.latchedCount = s.tracker.count := by
  simp only [acquire, takeSource_eq, Tracker.withSource]

theorem acquire_phasor (samples : List (List Int)) (s : State) (ch : Channel) :
    (acquire samples s).acq.phasor[ch] =
      (referred (engineering s samples) (acquire samples s).tracker.source (engineering s samples)[ch]).saturated := by
  rw [acquire_source]
  simp [acquire]

theorem acquire_saturated (samples : List (List Int)) (s : State) (ch : Channel) :
    (acquire samples s).acq.saturated[ch] =
      saturatedFlag s samples (engineering s samples) (acquire samples s).tracker.source ch := by
  rw [acquire_source]
  simp [acquire]

/-- The acquisition unit writes its own fields and the tracker's, and the event FREQ_HELD is the only one. -/
theorem acquire_frame (samples : List (List Int)) (s : State) :
    acquire samples s =
      { s with
        acq := (acquire samples s).acq
        tracker := (acquire samples s).tracker
        events := if (acquire samples s).tracker.source = none ∧ s.tracker.held = false then
            afterEvent .freqHeld none [some 1] s
          else s.events } := by
  have h := acquire_eq samples s
  rw [takeSource_eq] at h
  rw [acquire_source, acquire_tracker]
  dsimp only at h ⊢
  exact h

/-! ## The blocks' work with the published phasors -/

theorem boundaryWork_of_starting {s : State} (h : s.runState = .starting) (first : Bool) : boundaryWork first s = s := if_pos h

/-- In SETUP and RUN the estimator comes first, and each block takes the groups of the topology, which no block changes. -/
theorem boundaryWork_of_ready {s : State} (h : s.runState ≠ .starting) (first : Bool) :
    boundaryWork first s =
      (let u := forEach s.topo.groups quietWork s
       let supervised (u : State) := forEach s.topo.groups crossingTest (forEach four sectionTest u)
       if first then forEach s.topo.groups sequencerWork (supervised u)
       else supervised (forEach s.topo.groups sequencerWork u)) := by
  unfold boundaryWork
  rw [if_neg h]
  cases first <;> simp [supervisorWork]

/-- The blocks write none of the fields that only requests, the tracker, the acquisition unit and the clock write. -/
theorem boundaryWork_fixed (first : Bool) (s : State) : (boundaryWork first s).fixed = s.fixed := by
  by_cases h : s.runState = .starting
  · rw [boundaryWork_of_starting h]
  · rw [boundaryWork_of_ready h]
    cases first <;> simp

theorem boundaryWork_topo (first : Bool) (s : State) : (boundaryWork first s).topo = s.topo := by
  by_cases h : s.runState = .starting
  · rw [boundaryWork_of_starting h]
  · rw [boundaryWork_of_ready h]
    cases first <;> simp

theorem exec_cycleBoundary (samples : List (List Int)) (first : Bool) (s : State) :
    exec (.cycleBoundary samples first) s = .next (boundaryWork first (acquire samples s)) := rfl

theorem Topology.groups_eq (t : Topology) :
    t.groups = ([0, 1, 2, 3] : List Group).filter (fun g => decide (t.groupOf[g] = g)) := rfl

/-- Settles O33: the acquisition unit publishes and chooses the source, and the blocks that work after it write neither its fields
nor the tracker's. -/
theorem cycleBoundaryPublishesThePhasors : Obligations.CycleBoundaryPublishesThePhasors := by
  intro samples first s raw scaled limited eng
  have hlimited (p : Phasor) : limited p = p.saturated := p.saturated_eq.symm
  have hscaled (ch : Channel) : scaled ch = engineeringExact s samples ch := rfl
  have heng (ch : Channel) : eng ch = (engineering s samples)[ch] := by
    rw [engineering_getElem, ← hscaled, ← hlimited]
  have hraw (ch : Channel) : raw ch = channelSamples samples ch := rfl
  have hexact (ch : Channel) : (engineeringExact s samples ch).saturated = (engineering s samples)[ch] :=
    (engineering_getElem s samples ch).symm
  clear_value raw scaled limited eng
  have htracking := Tracker.withSource_chosen (acquire_tracker samples s)
  have hcount := acquire_latchedCount samples s
  have hphasor := acquire_phasor samples s
  have hflag := acquire_saturated samples s
  have hframe := acquire_frame samples s
  have hfixed := boundaryWork_fixed first (acquire samples s)
  have htopo := boundaryWork_topo first (acquire samples s)
  have hstarting (h : (acquire samples s).runState = .starting) := boundaryWork_of_starting h first
  have hready (h : (acquire samples s).runState ≠ .starting) := boundaryWork_of_ready h first
  rw [exec_cycleBoundary]
  generalize boundaryWork first (acquire samples s) = t at *
  generalize acquire samples s = p at *
  have hacq : t.acq = p.acq := congrArg Fixed.acq hfixed
  have htracker : t.tracker = p.tracker := congrArg Fixed.tracker hfixed
  have hpfixed : p.fixed = { s.fixed with acq := p.acq, tracker := p.tracker } := by rw [hframe]; rfl
  have hptopo : p.topo = s.topo := by rw [hframe]
  have hrun : p.runState = s.runState := congrArg Fixed.runState hpfixed
  have hkept := hfixed.trans hpfixed
  obtain ⟨hsome, hnone, hsame, hchanged, hused, hoffered⟩ := htracking
  refine ⟨t, rfl, ?_⟩
  rw [htracker, hacq]
  simp only [heng]
  refine ⟨hsome, hnone, hsame, hchanged, hused, hoffered, hcount, fun ch => ?_, ?_⟩
  · constructor
    · rw [hphasor, hlimited]
      cases p.tracker.source <;> rfl
    · rw [hflag, saturatedFlag_iff, hexact, hraw, hscaled, hlimited]
      cases p.tracker.source <;> rfl
  refine ⟨congrArg Fixed.settings hkept, htopo.trans hptopo, congrArg Fixed.contacts hkept, congrArg Fixed.link hkept,
    congrArg Fixed.runState hkept, congrArg Fixed.time hkept, congrArg Fixed.table hkept, congrArg Fixed.setpoint hkept, ?_⟩
  rw [← hframe, ← Topology.groups_eq, ← hptopo, ← hrun]
  refine ⟨hstarting, fun h hfirst => ?_, fun h hfirst => ?_⟩
  · rw [hready h, hfirst]
    rfl
  · rw [hready h, hfirst]
    rfl

end Sys2Proof.Machine

/-! # SET (R16, R17, R161, R176, R181, R200) -/

namespace Sys2Proof.Machine

/-! ## The clamp of R176 -/

theorem clampInt_toNat (lo hi : Nat) (v : Int) : (clampInt lo hi v).toNat = (clamped lo hi v).1 := by
  unfold clampInt clamped
  split
  · simp
  · split <;> simp

/-- The status says whether the value written is the value asked for. -/
theorem clamped_status (lo hi : Nat) (v : Int) :
    (clamped lo hi v).2 = if ((clamped lo hi v).1 : Int) = v then .ok else .clamped := by
  unfold clamped
  split
  · rw [if_neg (by simp; omega)]
  · split
    · rw [if_neg (by simp; omega)]
    · rw [if_pos (by simp; omega)]

theorem clamped_taken (lo hi : Nat) (v : Int) : (clamped lo hi v).2.taken = true ∧ (clamped lo hi v).2.hasResult = true := by
  rw [clamped_status]
  split <;> exact ⟨rfl, rfl⟩

/-! ## Reading the settings table (R199) -/

@[simp] theorem SettingId.ofCode_code (k : SettingId) : SettingId.ofCode k.code = some k := by cases k <;> rfl

/-- A numeric setting is neither enumerated nor structural (R199, R200). -/
theorem SettingId.numeric {k : SettingId} {s : State} {r : Nat × Nat} (h : k.limits s = some r) (v : Int) :
    k.badEnum v = false ∧ k.structural = false ∧ k ≠ .assignment := by
  cases k with
  | nominal | debounce | polarity | assignment => nomatch h
  | _ => exact ⟨rfl, rfl, nofun⟩

theorem itemOf_withItem {α : Type} {n : Nat} (xs : Vector α n) {i : Nat} (h : i < n) (a d : α) :
    itemOf (withItem xs i a) i d = a := by
  simp [itemOf, withItem, h]

/-- A numeric setting reads back what was written (R176). -/
theorem readSetting_writeSetting {k : SettingId} {s : State} {r : Nat × Nat} (h : k.limits s = some r) {i : Nat} (hi : i < k.scope)
    (v : Nat) : readSetting k i (writeSetting k i v s) = v := by
  cases k with
  | nominal | debounce | polarity | assignment => nomatch h
  | gain | injectorLevel | plungerTolerance | tapTolerance | speed | margin | coast | stepLimit | interStep | moveInterval =>
    exact itemOf_withItem _ hi v 0
  | _ => rfl

theorem readSetting_debounce (i : ContactNo) (s : State) : readSetting .debounce i s = (s.contacts.input[i]).debounce := by
  simp [readSetting, itemOf]

/-! ## What a SET writes -/

/-- The numeric settings whose rule adds nothing of its own: the write is all (R176). -/
theorem applySetting_plain {k : SettingId} {s : State} {r : Nat × Nat} (hl : k.limits s = some r)
    (hk : k ∉ ([.injectorLevel, .periodic, .maxAge, .plungerTolerance, .tapTolerance, .uStart] : List SettingId)) (i v : Nat) :
    applySetting k i v s = writeSetting k i v s := by
  cases k with
  | nominal | debounce | polarity | assignment => nomatch hl
  | injectorLevel | periodic | maxAge | plungerTolerance | tapTolerance | uStart => exact absurd (by decide) hk
  | _ => rfl

theorem applySetting_debounce (i : ContactNo) (v : Nat) (s : State) :
    applySetting .debounce i v s = s.setInput i { s.contacts.input[i] with debounce := v } := by
  simp [applySetting]

theorem applySetting_nominal_same (s : State) (i : Nat) : applySetting .nominal i s.settings.nominal s = s := if_pos rfl

theorem applySetting_nominal_new {hz : Nat} {s : State} (h : hz ≠ s.settings.nominal) (i : Nat) :
    applySetting .nominal i hz s = changeNominal hz s := if_neg (Ne.symm h)

/-! ## The status of a SET, by the order of its table (R176) -/

theorem settingStatus_badValue {k : SettingId} {v : Int} (h : k.badEnum v = true) (i : Nat) (s : State) :
    settingStatus k i v s = .badValue := if_pos h

theorem settingStatus_starting {k : SettingId} {v : Int} {s : State} (h : k.badEnum v = false) (hs : s.runState = .starting)
    (i : Nat) : settingStatus k i v s = .notReady .starting := by
  simp [settingStatus, h, hs]

theorem settingStatus_wrongState {k : SettingId} {v : Int} {s : State} (h : k.badEnum v = false) (hk : k.structural = true)
    (hs : s.runState = .run) (i : Nat) : settingStatus k i v s = .wrongState := by
  simp [settingStatus, h, hk, hs]

/-- A value of an enumeration, in a state that does not refuse it, is taken as it stands. -/
theorem settingStatus_enum {k : SettingId} {v : Int} {s : State} (h : k.badEnum v = false) (hs : s.runState ≠ .starting)
    (hk : k.structural = true → s.runState ≠ .run) (ha : k ≠ .assignment) (hl : k.limits s = none) (i : Nat) :
    settingStatus k i v s = .ok := by
  simpa [settingStatus, h, hs, ha, hl] using hk

theorem clampValue_numeric {k : SettingId} {s : State} {lo hi : Nat} (hl : k.limits s = some (lo, hi)) (hp : k ≠ .periodic) (v : Int) :
    k.clampValue v s = (clamped lo hi v).1 := by
  simp [SettingId.clampValue, hl, hp, clampInt_toNat]

theorem settingStatus_numeric {k : SettingId} {v : Int} {s : State} {lo hi : Nat} (hl : k.limits s = some (lo, hi))
    (hp : k ≠ .periodic) (hs : s.runState ≠ .starting) (i : Nat) : settingStatus k i v s = (clamped lo hi v).2 := by
  obtain ⟨hbad, hstructural, hassignment⟩ := SettingId.numeric hl v
  simp [settingStatus, hbad, hstructural, hassignment, hs, hl, clampValue_numeric hl hp, clamped_status]

/-! ## Serving a SET (R172, R173, R176, R181) -/

theorem exec_set (tag id scope : Nat) (v : Int) (s : State) : exec (.set tag id scope v) s = .next (serveSet tag id scope v s) := rfl

theorem exec_setNominalFrequency (tag scope : Nat) (v : Int) (s : State) :
    exec (.setNominalFrequency tag scope v) s = .next (serveSet tag SettingId.nominal.code scope v s) := rfl

theorem setStatus_code {k : SettingId} {i : Nat} (hi : i < k.scope) (v : Int) (s : State) :
    setStatus k.code i v s = settingStatus k i v s := by
  simp [setStatus, hi]

theorem setEffect_code (k : SettingId) (i : Nat) (v : Int) (s : State) :
    setEffect k.code i v s = applySetting k i (k.clampValue v s) s := by
  simp [setEffect]

theorem settingResult_code {k : SettingId} {i : Nat} (hi : i < k.scope) (s : State) :
    settingResult k.code i s = setReply k.code i (readSetting k i s) := by
  simp [settingResult, settingField, setReply, byte1, hi]

/-- An accepted SET: the setting's rule, and the value then in force in the reply. -/
theorem serveSet_taken {k : SettingId} {i : Nat} {v : Int} {s u : State} {st : Status} (h : s.link.slots.length < 2)
    (hi : i < k.scope) (hst : settingStatus k i v s = st) (ht : st.taken = true ∧ st.hasResult = true)
    (hu : applySetting k i (k.clampValue v s) s = u) (tag : Nat) :
    serveSet tag k.code i v s = withReply 0x03 tag st (setReply k.code i (readSetting k i u)) u := by
  unfold serveSet
  rw [serve_free h, setStatus_code hi, hst, if_pos ht.1, if_pos ht.2, setEffect_code, settingResult_code hi, hu]

/-- A refused SET: nothing but a reply with the value in force. -/
theorem serveSet_refused {k : SettingId} {i : Nat} {v : Int} {s : State} {st : Status} (h : s.link.slots.length < 2) (hi : i < k.scope)
    (hst : settingStatus k i v s = st) (ht : st.taken = false) (hr : st.hasResult = true) (tag : Nat) :
    serveSet tag k.code i v s = withReply 0x03 tag st (setReply k.code i (readSetting k i s)) s := by
  unfold serveSet
  rw [setStatus_code hi, hst, serve_refused h _ _ _ _ _ ht hr, settingResult_code hi]

/-- A SET of what is no setting: id and scope as given, and a value of 0xFF (log entry 26). -/
theorem serveSet_unknown {id scope : Nat} {s : State} (h : s.link.slots.length < 2)
    (hid : ∀ k, SettingId.ofCode id = some k → k.scope ≤ scope) (tag : Nat) (v : Int) :
    serveSet tag id scope v s =
      withReply 0x03 tag .badValue (be 2 id ++ be 1 scope ++ ([0xFF, 0xFF, 0xFF, 0xFF] : List Byte)) s := by
  have hstatus : setStatus id scope v s = .badValue := by
    unfold setStatus
    split
    · rfl
    next k hk => exact if_neg (Nat.not_lt.mpr (hid k hk))
  have hfield : settingField id scope s = [0xFF, 0xFF, 0xFF, 0xFF] := by
    unfold settingField
    split
    · rfl
    next k hk => exact if_neg (Nat.not_lt.mpr (hid k hk))
  unfold serveSet settingResult
  rw [hstatus, serve_refused h _ _ _ _ _ rfl rfl, hfield]
  rfl

/-! ## The nominal frequency (R16, R17) -/

theorem changeNominal_eq (hz : Nat) (s : State) :
    changeNominal hz s =
      { s with
        settings := { s.settings with nominal := hz }
        tracker := ⟨s.tracker.source, [], none, hz * 1000, sampleCount (hz * 1000), true⟩
        events := if s.tracker.held = true then s.events
          else afterEvent .freqHeld (s.tracker.source.map Fin.val) [some 1] s } := by
  unfold changeNominal
  rw [setFreqHeld_eq]
  rfl

theorem sampleCount_nominal {hz : Nat} (h : hz ∈ ([50, 60] : List Nat)) :
    sampleCount (hz * 1000) = if hz = 50 then 7680 else 6400 := by
  simp only [List.mem_cons, List.not_mem_nil, or_false] at h
  obtain rfl | rfl := h <;> decide

/-! ## The three parts of the statement -/

/-- SET of a numeric setting whose rule adds nothing of its own. -/
theorem exec_set_plain {k : SettingId} {i lo hi : Nat} {s : State} (h : Taking s) (hscope : i < k.scope)
    (hl : k.limits s = some (lo, hi))
    (hk : k ∉ ([.injectorLevel, .periodic, .maxAge, .plungerTolerance, .tapTolerance, .uStart] : List SettingId)) (tag : Nat)
    (v : Int) :
    exec (.set tag k.code i v) s =
      .next (withReply 0x03 tag (clamped lo hi v).2 (setReply k.code i (clamped lo hi v).1)
        { s with settings := s.settings.write k i (clamped lo hi v).1 }) := by
  have hp : k ≠ .periodic := by
    rintro rfl
    exact hk (by decide)
  have hwrite : applySetting k i (k.clampValue v s) s = writeSetting k i (clamped lo hi v).1 s := by
    rw [clampValue_numeric hl hp, applySetting_plain hl hk]
  rw [exec_set, serveSet_taken h.1 hscope (settingStatus_numeric hl hp h.2 i) (clamped_taken lo hi v) hwrite,
    readSetting_writeSetting hl hscope]
  rfl

/-- SET of an input's debounce time (R161). -/
theorem exec_set_debounce {s : State} (h : Taking s) (tag : Nat) (i : ContactNo) {v : Nat} (hv : v ∈ ([10, 100] : List Nat)) :
    exec (.set tag 0x0060 i v) s =
      .next (withReply 0x03 tag .ok (setReply 0x0060 i v) (s.setInput i { s.contacts.input[i] with debounce := v })) := by
  have hbad : SettingId.debounce.badEnum v = false := by
    simp only [List.mem_cons, List.not_mem_nil, or_false] at hv
    obtain rfl | rfl := hv <;> rfl
  have hstatus : settingStatus .debounce i v s = .ok := settingStatus_enum hbad h.2 nofun nofun rfl i
  have hserve := serveSet_taken h.1 (k := .debounce) i.isLt hstatus ⟨rfl, rfl⟩ (applySetting_debounce i v s) tag
  have hread : readSetting .debounce i (s.setInput i { s.contacts.input[i] with debounce := v }) = v := by
    simp [readSetting_debounce]
  rw [hread] at hserve
  exact congrArg _ hserve

/-- SET of the nominal frequency (R16, R17, R200), by the value and the run state. -/
theorem exec_setNominalFrequency_cases (tag : Nat) {s : State} (h : s.link.slots.length < 2) :
    (s.runState = .setup →
      (∀ hz ∈ ([50, 60] : List Nat), hz ≠ s.settings.nominal →
        exec (.setNominalFrequency tag 0 hz) s =
          .next (withReply 0x03 tag .ok (setReply 0x0002 0 hz) (changeNominal hz s))) ∧
      (s.settings.nominal = 50 ∨ s.settings.nominal = 60 →
        exec (.setNominalFrequency tag 0 s.settings.nominal) s =
          .next (withReply 0x03 tag .ok (setReply 0x0002 0 s.settings.nominal) s))) ∧
    (s.runState = .run → ∀ hz ∈ ([50, 60] : List Nat),
      exec (.setNominalFrequency tag 0 hz) s =
        .next (withReply 0x03 tag .wrongState (setReply 0x0002 0 s.settings.nominal) s)) ∧
    (∀ v : Int, v ≠ 50 → v ≠ 60 →
      exec (.setNominalFrequency tag 0 v) s =
        .next (withReply 0x03 tag .badValue (setReply 0x0002 0 s.settings.nominal) s)) := by
  have hscope : 0 < SettingId.nominal.scope := Nat.zero_lt_one
  have henum {hz : Nat} (hhz : hz ∈ ([50, 60] : List Nat)) : SettingId.nominal.badEnum hz = false := by
    simp only [List.mem_cons, List.not_mem_nil, or_false] at hhz
    obtain rfl | rfl := hhz <;> rfl
  have htaken {hz : Nat} {u : State} (hhz : hz ∈ ([50, 60] : List Nat)) (hsetup : s.runState = .setup)
      (hu : applySetting .nominal 0 hz s = u) : serveSet tag SettingId.nominal.code 0 hz s = _ :=
    serveSet_taken h hscope (settingStatus_enum (henum hhz) (by simp [hsetup]) (by simp [hsetup]) nofun rfl 0) ⟨rfl, rfl⟩ hu tag
  have hread (u : State) : readSetting .nominal 0 u = u.settings.nominal := rfl
  refine ⟨fun hsetup => ⟨fun hz hhz hnew => ?_, fun hsame => ?_⟩, fun hrun hz hhz => ?_, fun v h50 h60 => ?_⟩
  · rw [exec_setNominalFrequency, htaken hhz hsetup (applySetting_nominal_new hnew 0), hread, changeNominal_eq]
    rfl
  · rw [exec_setNominalFrequency, htaken (by simpa using hsame) hsetup (applySetting_nominal_same s 0), hread]
    rfl
  · rw [exec_setNominalFrequency, serveSet_refused h hscope (settingStatus_wrongState (henum hhz) rfl hrun 0) rfl rfl, hread]
    rfl
  · have hbad : SettingId.nominal.badEnum v = true := by simp [SettingId.badEnum, h50, h60]
    rw [exec_setNominalFrequency, serveSet_refused h hscope (settingStatus_badValue hbad 0 s) rfl rfl, hread]
    rfl

/-- Settles O7: each clause is the status that the order of R176 gives, with the effect or the refusal that `serve` makes of it. -/
theorem setWritesRefusesAndRestartsTheTracker : Obligations.SetWritesRefusesAndRestartsTheTracker := by
  refine ⟨⟨fun tag k i lo hi v s h hscope hl _ hk => exec_set_plain h hscope hl hk tag v,
    fun tag i s h v hv => exec_set_debounce h tag i hv, fun tag id scope v s h hid => ?_, fun tag k scope v s h hscope => ?_,
    fun tag i v s h h10 h100 => ?_, fun tag k scope v s h hs hscope hl => ?_⟩, fun tag s h => ?_⟩
  · rw [exec_set, serveSet_unknown h (by simp [hid])]
  · rw [exec_set, serveSet_unknown h (by simpa using hscope)]
  · have hbad : SettingId.debounce.badEnum v = true := by simp [SettingId.badEnum, h10, h100]
    have hserve := serveSet_refused h (k := .debounce) i.isLt (settingStatus_badValue hbad i s) rfl rfl tag
    rw [readSetting_debounce] at hserve
    exact congrArg _ hserve
  · obtain ⟨r, hr⟩ := Option.isSome_iff_exists.mp hl
    have hstatus := settingStatus_starting (SettingId.numeric hr v).1 hs scope
    rw [exec_set, serveSet, setStatus_code hscope, hstatus, serve_bare h _ _ _ _ _ rfl rfl]
  · obtain ⟨hsetup, hrun, hbad⟩ := exec_setNominalFrequency_cases tag h
    refine ⟨fun hs => ⟨fun hz hhz hnew => ?_, (hsetup hs).2⟩, hrun, hbad⟩
    rw [(hsetup hs).1 hz hhz hnew, changeNominal_eq, sampleCount_nominal hhz]

end Sys2Proof.Machine
